-- ==== Sys2Proof/Word.lean ====
section
/-! DEFINITION. Words, numbers and the two banked vectors of the TS-416 (00_scope.md, "Conventions"). -/

namespace Sys2Proof

/-- One byte of a cell, of the strap image or of a local port frame. -/
abbrev Byte := BitVec 8

/-- A 16-bit field: frame numbers, region words, CRCs, counters. -/
abbrev Word := BitVec 16

/-- A station number, 0..15. -/
abbrev Station := Fin 16

/-- A slot number, 0..3. -/
abbrev SlotNo := Fin 4

/-- A level of the LNK pair in one bit time: dominant is `false` (a data 0), recessive is `true` (a data 1), section 5.1. -/
abbrev Level := Bool

/-- The driven level. -/
abbrev dominant : Level := false

/-- The resting level. -/
abbrev recessive : Level := true

/-- The bank of four values that `f` gives for slots 0 to 3. -/
def tab4 {α : Type} (f : SlotNo → α) : Vector α 4 := #v[f 0, f 1, f 2, f 3]

/-- The bank of sixteen values that `f` gives for stations 0 to 15. -/
def tab16 {α : Type} (f : Station → α) : Vector α 16 :=
  #v[f 0, f 1, f 2, f 3, f 4, f 5, f 6, f 7, f 8, f 9, f 10, f 11, f 12, f 13, f 14, f 15]

/-- The four slot numbers in slot order (R20, R30, R144). -/
def slotOrder : List SlotNo := [0, 1, 2, 3]

/-- The sixteen station numbers in rising order. -/
def stationOrder : List Station := [0, 1, 2, 3, 4, 5, 6, 7, 8, 9, 10, 11, 12, 13, 14, 15]

@[simp] theorem tab4_get {α : Type} (f : SlotNo → α) (i : SlotNo) : (tab4 f)[i] = f i := by
  fin_cases i <;> rfl

@[simp] theorem tab16_get {α : Type} (f : Station → α) (i : Station) : (tab16 f)[i] = f i := by
  fin_cases i <;> rfl

@[simp] theorem mem_slotOrder (n : SlotNo) : n ∈ slotOrder := by fin_cases n <;> decide

@[simp] theorem mem_stationOrder (i : Station) : i ∈ stationOrder := by fin_cases i <;> decide

end Sys2Proof
end

