-- ==== Sys2Proof/Syntax.lean ====
section
/-! DEFINITION. The commands of the TS-416: one constructor per row of spec/opcode_table.json, with the operands the
row's rules give it. -/

namespace Sys2Proof

/-- What one strap read transaction met (R175). -/
inductive StrapRead where
  /-- SDA was held low when the station wanted to send the start condition. -/
  | sdaHeldLow
  /-- The memory did not acknowledge this one of the four bytes sent (0x58, 0x00, 0x00, 0x59). -/
  | notAcknowledged (sent : Fin 4)
  /-- All four bytes were acknowledged and these 72 bytes were read, address 0 first. -/
  | image (bytes : List Byte)
deriving DecidableEq, Repr

/-- The steps of the part, each whole and indivisible. -/
inductive Instr where
  /-- The supply rises to operating level; the operand is whether RESETn is asserted at that moment (R172). -/
  | powerOn (resetnAsserted : Bool)
  /-- RESETn is asserted after power-up (R172). -/
  | resetnAsserted
  /-- RESETn is released (R172). -/
  | resetnReleased
  /-- A strap read transaction ends (R176). -/
  | strapAttemptEnd (read : StrapRead)
  /-- The first dominant level after idle (R123). -/
  | linkBusy
  /-- The level read differs from the level driven (R113). -/
  | readbackMismatch
  /-- The abort mark has been driven in full (R113). -/
  | abortMarkComplete
  /-- The last bit of the own cell is compared without a mismatch (R112). -/
  | lastBitCompared
  /-- The link goes idle. The operand is the level of the pair in each bit time, from the first dominant level after
  idle to the tenth recessive bit time of the run that makes the link idle (R101, R105). -/
  | cellEnd (levels : List Level)
  /-- This slot of the grid begins (R121). -/
  | slotStart (index : Nat)
  /-- The silence timer expires (R59). -/
  | silenceTimerExpiry
  /-- The frame timer expires (R46). -/
  | frameTimerExpiry
  /-- The query timer expires (R89). -/
  | queryTimerExpiry
  /-- A rise of frame-valid (R137). -/
  | sensorFrameStart
  /-- A pulse of line-valid delivered these pixels, the level of the 24 pixel data lines for each (R138). -/
  | sensorLine (pixels : List (BitVec 24))
  /-- A fall of frame-valid (R142). -/
  | sensorFrameEnd
  /-- A select window whose first byte is 0x00 ends after this many bytes (R186). -/
  | readWindow (bytes : Nat)
  /-- A select window ends whose LDI bytes are a request frame that fails the check or carries an unknown code (R187). -/
  | requestWindow (bytes : List Byte)
  /-- A request window ends whose frame passes the check with code 1 and this body; likewise below (R192). -/
  | status (body : List Byte)
  /-- Code 2 (R193). -/
  | table (body : List Byte)
  /-- Code 3 (R194). -/
  | roster (body : List Byte)
  /-- Code 4 (R195). -/
  | counters (body : List Byte)
  /-- Code 5 (R196). -/
  | notice (body : List Byte)
  /-- Code 6 (R27). -/
  | slotOff (body : List Byte)
  /-- Code 7 (R28). -/
  | slotOn (body : List Byte)
  /-- Code 8 (R29). -/
  | slotSet (body : List Byte)
  /-- Code 9 (R198). -/
  | leave (body : List Byte)
  /-- Code 10 (R75, R199). -/
  | rejoin (body : List Byte)
  /-- Code 11 (R200). -/
  | reset (body : List Byte)
deriving DecidableEq, Repr

end Sys2Proof
end

