-- ==== Sys2Proof/Decode.lean ====
section
/-! DEFINITION. Reading commands from bits: the opcode table gives no row any bits (`decodeTableWord`), and a select
window of the local port spells one command (R184, R185, R187, section 11.5), with the frame writer beside it. -/

namespace Sys2Proof

/-- The command that a word spells by the table's bits: no row of spec/opcode_table.json carries bits. -/
def decodeTableWord (_nbits _w : Nat) : Option Instr := none

/-- The 8-bit sum of a frame's bytes (R186, R187). -/
def byteSum (bytes : List Byte) : Byte := bytes.foldl (· + ·) 0

/-- The byte that makes the 8-bit sum of `bytes` and itself 0 (section 11.5). -/
def checkByte (bytes : List Byte) : Byte := 0 - byteSum bytes

/-- R187: a frame is whole when it has at least 3 bytes, 3 plus its length value in all, and sums to 0. -/
def frameWhole (bytes : List Byte) : Bool :=
  3 ≤ bytes.length && bytes.length == 3 + (bytes.getD 1 0).toNat && byteSum bytes == 0

/-- The body of a whole frame: the bytes between the length byte and the check byte. -/
def frameBody (bytes : List Byte) : List Byte := (bytes.drop 2).dropLast

/-- A whole frame of this code and body (section 11.5). -/
def frameOf (code : Byte) (body : List Byte) : List Byte :=
  let head := code :: BitVec.ofNat 8 body.length :: body
  head ++ [checkByte head]

/-- The request of a code, 1..11 (section 10.3). -/
def requestOf (code : Nat) (body : List Byte) : Option Instr :=
  match code with
  | 1 => some (.status body)
  | 2 => some (.table body)
  | 3 => some (.roster body)
  | 4 => some (.counters body)
  | 5 => some (.notice body)
  | 6 => some (.slotOff body)
  | 7 => some (.slotOn body)
  | 8 => some (.slotSet body)
  | 9 => some (.leave body)
  | 10 => some (.rejoin body)
  | 11 => some (.reset body)
  | _ => none

/-- The command that a window's LDI bytes spell (R185, R187): a first byte 0x00 is a read window, a whole frame of a
known code is its request, and anything else is a request window that is refused; a window of no byte spells none. -/
def decodeWindowBytes (bytes : List Byte) : Option Instr :=
  match bytes with
  | [] => none
  | first :: _ =>
    if first == 0 then some (.readWindow bytes.length)
    else if frameWhole bytes then
      match requestOf first.toNat (frameBody bytes) with
      | some i => some i
      | none => some (.requestWindow bytes)
    else some (.requestWindow bytes)

/-- One byte from eight bits, most significant bit first (section 10.1). -/
def byteOfBits (b7 b6 b5 b4 b3 b2 b1 b0 : Bool) : Byte :=
  BitVec.ofNat 8 (b7.toNat * 128 + b6.toNat * 64 + b5.toNat * 32 + b4.toNat * 16 + b3.toNat * 8 + b2.toNat * 4 +
    b1.toNat * 2 + b0.toNat)

/-- The bits of a window as bytes; bits at the end that do not complete a byte are disregarded (R184). -/
def bytesOfBits : List Bool → List Byte
  | b7 :: b6 :: b5 :: b4 :: b3 :: b2 :: b1 :: b0 :: rest => byteOfBits b7 b6 b5 b4 b3 b2 b1 b0 :: bytesOfBits rest
  | _ => []

/-- The bits of bytes on LDI or LDO, most significant bit first (section 10.1). -/
def bitsOfBytes (bytes : List Byte) : List Bool :=
  bytes.flatMap fun b => [b.getLsbD 7, b.getLsbD 6, b.getLsbD 5, b.getLsbD 4, b.getLsbD 3, b.getLsbD 2, b.getLsbD 1, b.getLsbD 0]

/-- The command that the LDI bits of a select window spell (R184). -/
def decodeWindow (ldi : List Bool) : Option Instr := decodeWindowBytes (bytesOfBits ldi)

/-- The request code of a command that is one of the eleven requests, with its body. -/
def requestCode (i : Instr) : Option (Byte × List Byte) :=
  match i with
  | .powerOn _ => none
  | .resetnAsserted => none
  | .resetnReleased => none
  | .strapAttemptEnd _ => none
  | .linkBusy => none
  | .readbackMismatch => none
  | .abortMarkComplete => none
  | .lastBitCompared => none
  | .cellEnd _ => none
  | .slotStart _ => none
  | .silenceTimerExpiry => none
  | .frameTimerExpiry => none
  | .queryTimerExpiry => none
  | .sensorFrameStart => none
  | .sensorLine _ => none
  | .sensorFrameEnd => none
  | .readWindow _ => none
  | .requestWindow _ => none
  | .status b => some (1, b)
  | .table b => some (2, b)
  | .roster b => some (3, b)
  | .counters b => some (4, b)
  | .notice b => some (5, b)
  | .slotOff b => some (6, b)
  | .slotOn b => some (7, b)
  | .slotSet b => some (8, b)
  | .leave b => some (9, b)
  | .rejoin b => some (10, b)
  | .reset b => some (11, b)

/-- The LDI bytes of a window that spells a local port command (section 11.5); none for the other commands. -/
def windowBytes (i : Instr) : Option (List Byte) :=
  match requestCode i with
  | some (code, body) => some (frameOf code body)
  | none =>
    match i with
    | .readWindow n => some (List.replicate n 0)
    | .requestWindow bytes => some bytes
    | _ => none

/-- The LDI bits of such a window. -/
def encodeWindow (i : Instr) : Option (List Bool) := (windowBytes i).map bitsOfBytes

end Sys2Proof
end

