-- ==== Sys2Proof/Config.lean ====
section
/-! DEFINITION. The free values: what the manual leaves open, as constants without a body, so that nothing can be
proved about them and every claim holds whatever they are. -/

namespace Sys2Proof

/-- What a slot can become after its own CLAIM is refused with a cause that R22's table does not list. R26's law (an
ACTIVE or DROPPING slot owns an entry) and R20 (a PROPOSED slot has a queued CLAIM) rule the other slot states out. -/
inductive RefusedSlot where
  | off
  | wanted
  | waitingOverlap
  | waitingFull
deriving DecidableEq, Repr, Inhabited

namespace Config

/-- DESIGN CHOICE (log entry 20): the slot's new state after its own CLAIM is refused NOT-MEMBER, RANGE, WIDTH or
DUPLICATE; R22 states none. Applied to `State.free`, which each use advances. -/
opaque refusedSlot : Nat → RefusedSlot

/-- DESIGN CHOICE (log entry 20): the cause code of the SLOT notice of such a refusal; section 11.5 lists none. -/
opaque refusedCauseCode : Nat → Byte

/-- DESIGN CHOICE (log entry 21): the bytes that a MONO12P row of odd width ends in; R152 packs pairs only. -/
opaque unpairedPixel : BitVec 12 → List Byte

/-- DESIGN CHOICE (log entry 21): the 12-bit tile row field for a tile row above 4095 (R154 gives 0..4095). -/
opaque wideTileRow : Nat → BitVec 12

/-- DESIGN CHOICE (log entry 21): the 12-bit payload length field for a payload above 4095 bytes (R102 gives 0..4095). -/
opaque longPayloadLength : Nat → BitVec 12

/-- DESIGN CHOICE (log entry 21): the tile row of an end marker of a tile of 0 rows (R154 gives rows − 1). -/
opaque emptyTileLastRow : Nat

/-- DESIGN CHOICE (log entry 21): the missing count of a tile that has run past its row count (R142 gives rows minus
the rows accepted, which is then below 0); arguments: rows, next tile row, missing count. -/
opaque missingPastEnd : Nat → Nat → Nat → Nat

end Config
end Sys2Proof
end

