-- ==== Sys2Proof/Machine/State.lean ====
section
/-! DEFINITION. Everything the spec gives the TS-416 to hold, grouped by the blocks of 00_scope.md, as plain data, and
the machine right after a power-on (`State.reset`). -/

namespace Sys2Proof.Machine

/-- The pixel packing of a tile (R2). -/
inductive Format where
  | mono8
  | mono12p
  | rgb565
  | rgb888
deriving DecidableEq, Repr, Inhabited

/-- The life stage of a claim table entry (R2). -/
inductive EntryState where
  | pending
  | held
  | releasing
deriving DecidableEq, Repr, Inhabited

/-- A region of the composite frame (R2); the words are carried whole. -/
structure Region where
  row0 : Word
  rows : Word
  col0 : Word
  cols : Word
deriving DecidableEq, Repr, Inhabited

/-- A crop origin in sensor coordinates (R3, R17). -/
structure Crop where
  x : Word
  y : Word
deriving DecidableEq, Repr, Inhabited

/-- A tile key, owner.slot (R2). -/
structure TileKey where
  owner : Station
  slot : SlotNo
deriving DecidableEq, Repr, Inhabited

/-- The owner-local part of an own entry (R3): the crop origin and the link to the capture context. -/
structure LocalPart where
  crop : Crop
  context : SlotNo
deriving DecidableEq, Repr, Inhabited

/-- A claim table entry (R2, R3). -/
structure Entry where
  owner : Station
  slot : SlotNo
  format : Format
  state : EntryState
  region : Region
  localPart : Option LocalPart
deriving DecidableEq, Repr, Inhabited

/-- The cause a WAITING slot carries (R17). -/
inductive WaitCause where
  | overlap
  | full
deriving DecidableEq, Repr, Inhabited

/-- The state of a request slot (R17). -/
inductive SlotState where
  | off
  | wanted
  | proposed
  | waiting (cause : WaitCause)
  | active
  | dropping
deriving DecidableEq, Repr, Inhabited

/-- A request slot: contents, state and the two marks (R17). -/
structure Slot where
  format : Format
  region : Region
  crop : Crop
  state : SlotState
  startOn : Bool
  offAfter : Bool
deriving DecidableEq, Repr, Inhabited

/-- The claim table unit (R1, R14, R17). -/
structure ClaimUnit where
  table : List Entry
  removalMark : Bool
  slots : Vector Slot 4
deriving DecidableEq, Repr

/-- The frame unit (R31 to R34). The outstanding set has no order; it is kept in rising order of owner, then slot. -/
structure FrameUnit where
  number : Word
  outstanding : List TileKey
  timerRunning : Bool
  lastHeard : Word
deriving DecidableEq, Repr

/-- The cause of MUTED (R55). -/
inductive MuteCause where
  | strap
  | duplicate
  | collision
  | params
deriving DecidableEq, Repr, Inhabited

/-- The station state (R55). -/
inductive StationState where
  | strap
  | listen
  | syncing
  | member
  | suspect
  | left
  | muted (cause : MuteCause)
deriving DecidableEq, Repr, Inhabited

/-- A roster entry (R61). -/
structure RosterEntry where
  present : Bool
  age : Nat
  heard : Bool
  sequence : Byte
deriving DecidableEq, Repr, Inhabited

/-- The silence timer (R57): held while a signal is on the link. -/
inductive SilenceTimer where
  | stopped
  | running
  | held
deriving DecidableEq, Repr, Inhabited

/-- The membership unit (R55, R57, R61, R70). -/
structure MembershipUnit where
  state : StationState
  roster : Vector RosterEntry 16
  sequence : Byte
  silence : SilenceTimer
deriving DecidableEq, Repr

/-- The recovery unit (R78). The dump-pending set is kept in rising order. -/
structure RecoveryUnit where
  timerRunning : Bool
  attempts : Nat
  dumpPending : List Station
deriving DecidableEq, Repr

/-- The fields of a cell header (R102); the kind is the 4-bit code, known or unknown. -/
structure Header where
  kind : BitVec 4
  sender : Station
  frame : Word
  sequence : Byte
  length : BitVec 12
  flags : BitVec 4
  aux : Word
deriving DecidableEq, Repr, Inhabited

/-- A cell: its header and its payload (section 5.1). -/
structure Cell where
  header : Header
  payload : List Byte
deriving DecidableEq, Repr, Inhabited

/-- A control cell as the control queue names it (R162). -/
inductive QueueKind where
  | hello
  | claim (slot : SlotNo)
  | release (slot : SlotNo)
  | close (frame : Word)
  | query
  | dump
  | bye
deriving DecidableEq, Repr, Inhabited

/-- A cell of the control queue: kind, given control sequence, in-flight mark (R162). -/
structure QueuedCell where
  kind : QueueKind
  given : Option Byte
  inFlight : Bool
deriving DecidableEq, Repr, Inhabited

/-- The three sorts of line store entry (R154). -/
inductive StoreSort where
  | row (packed : List Byte)
  | lastRow (missing : Nat) (packed : List Byte)
  | endMarker (missing : Nat)
deriving DecidableEq, Repr, Inhabited

/-- A line store entry (R154). The owner of its tile key is the station's own number. -/
structure StoreEntry where
  slot : SlotNo
  frame : Word
  tileRow : Nat
  sort : StoreSort
  inFlight : Bool
deriving DecidableEq, Repr, Inhabited

/-- Where the own cell on the link came from (R169, R170). -/
inductive CellSource where
  | queue (kind : QueueKind)
  | store
deriving DecidableEq, Repr, Inhabited

/-- The transmitter's report on its cell (R106): none yet, matched to the last bit (R112), or a mismatch (R113). -/
inductive Report where
  | none
  | matched
  | mismatched
deriving DecidableEq, Repr, Inhabited

/-- The own cell on the link, from its transmission start to its end (R111): its fixed content, its source, the crop
origin that a CLAIM's slot held at the start (R20), and the transmitter's report. -/
structure Flight where
  cell : Cell
  source : CellSource
  crop : Crop
  report : Report
deriving DecidableEq, Repr, Inhabited

/-- Whether the receiver is in use (R101). In use, it is receiving while the link is busy and idle otherwise. -/
inductive Receiver where
  | notInUse
  | awaitingIdle
  | inUse
deriving DecidableEq, Repr, Inhabited

/-- The transmitter (R111). -/
inductive Transmitter where
  | idle
  | sending
  | marking
deriving DecidableEq, Repr, Inhabited

/-- The link interface (R101, R107, R111). `lastSender` is L, `none` for UNKNOWN. `busy` is the level of the pair. -/
structure LinkUnit where
  busy : Bool
  receiver : Receiver
  transmitter : Transmitter
  flight : Option Flight
  lastSender : Option Station
deriving DecidableEq, Repr

/-- The slot grid (R117, R118): running with the index of the last slot that began, `none` before slot 0. -/
inductive Grid where
  | stopped
  | running (slot : Option Nat)
deriving DecidableEq, Repr, Inhabited

/-- The deferral ladder (R117). -/
structure LadderUnit where
  grid : Grid
  rank : Station
  attempts : Nat
deriving DecidableEq, Repr

/-- A capture context (R135). -/
inductive Context where
  | idle
  | armed (frame : Word)
  | capturing (frame : Word) (next : Nat) (missing : Nat)
  | done (frame : Word)
deriving DecidableEq, Repr, Inhabited

/-- The capture unit (R132, R133, R135). -/
structure CaptureUnit where
  contexts : Vector Context 4
  inFrame : Bool
  rowCounter : Nat
deriving DecidableEq, Repr

/-- The details of a failed strap attempt (R178). -/
inductive StrapDetail where
  | none
  | noAnswer
  | tag
  | checksum
  | sensorKind
  | helloInterval
  | rosterTimeout
  | divider
  | frameTimeout
  | silenceWindow
  | compositeW
  | compositeH
deriving DecidableEq, Repr, Inhabited

/-- The kinds of reset (R172, R173). -/
inductive ResetCause where
  | power
  | line
  | localPort
deriving DecidableEq, Repr, Inhabited

/-- What passes on SDA in a strap transaction, one signal for each condition and for each bit (R175). In an acknowledge
bit `true` is the acknowledgement, SDA held low, and `false` is SDA left high. -/
inductive StrapSignal where
  | start
  | repeatedStart
  | stop
  /-- A bit of a byte that the station sends. -/
  | sent (bit : Bool)
  /-- The acknowledge bit behind a byte that the station sent: the memory's. -/
  | memoryAck (low : Bool)
  /-- A bit of a data byte that the station clocks in. -/
  | clocked (bit : Bool)
  /-- The acknowledge bit behind a data byte: the station's. -/
  | stationAck (low : Bool)
deriving DecidableEq, Repr, Inhabited

/-- The strap loader (R172, R173, R178, R180). `words` is the working copy, 36 words. `signals` is the model's record of
what passed on SDA in the last read transaction (log entry 5). -/
structure StrapUnit where
  words : List Word
  failed : Nat
  detail : StrapDetail
  cause : ResetCause
  resetCount : Byte
  signals : List StrapSignal
deriving DecidableEq, Repr

/-- The statuses of a reply (R186). -/
inductive Status where
  | done
  | refusedState
  | refusedArg
  | refusedCode
  | refusedCheck
deriving DecidableEq, Repr, Inhabited

/-- A reply waiting in the reply buffer (R186, R208). -/
structure Reply where
  status : Status
  body : List Byte
  overrun : Bool
deriving DecidableEq, Repr, Inhabited

/-- The causes of SLOT notices (R30). `unlisted` carries the code of a cause that no rule lists (log entry 20). -/
inductive SlotCause where
  | invalid
  | start
  | accepted
  | full
  | overlap
  | withdrawn
  | retry
  | released
  | suspect
  | install
  | unlisted (code : Byte)
deriving DecidableEq, Repr, Inhabited

/-- The causes of STATE notices (R56, R84). -/
inductive StateCause where
  | start
  | rejoin
  | heard
  | founded
  | install
  | fallback
  | bye
  | gap
  | lost
  | ahead
  | omitted
  | digest
  | strap
  | duplicate
  | collision
  | params
deriving DecidableEq, Repr, Inhabited

/-- The result a RECOVERY notice carries (R202). -/
inductive RecoveryResult where
  | installed
  | abandoned
deriving DecidableEq, Repr, Inhabited

/-- A notice (R202). -/
inductive Notice where
  | slot (slot : SlotNo) (state : SlotState) (cause : SlotCause)
  | cut (slot : SlotNo) (frame : Word)
  | state (state : StationState) (cause : StateCause)
  | recovery (result : RecoveryResult)
deriving DecidableEq, Repr, Inhabited

/-- The nineteen counters, in the order of R204's table. -/
structure Counters where
  headerFixed : Word
  headerBad : Word
  oversize : Word
  aborted : Word
  payloadBad : Word
  collisions : Word
  unknownKind : Word
  lag : Word
  lateTile : Word
  staleClose : Word
  seqGap : Word
  digestMismatch : Word
  paramsMismatch : Word
  dumpsSent : Word
  dumpsInstalled : Word
  queryUnanswered : Word
  tilesCut : Word
  linesDropped : Word
  rowsMissing : Word
deriving DecidableEq, Repr, Inhabited

/-- The local port (R186, R201, R204). `ldo` is the model's record of the bytes shifted out in the last select window. -/
structure PortUnit where
  reply : Option Reply
  notices : List Notice
  noticesLost : Byte
  counters : Counters
  ldo : List Byte
deriving DecidableEq, Repr

/-- The station, with its RESETn line (`resetLine` is `true` while asserted), the count of free values taken (the model's
own field, log entry 6) and the commands that wait, first in, first out (log entry 9). -/
structure State where
  claims : ClaimUnit
  frame : FrameUnit
  membership : MembershipUnit
  recovery : RecoveryUnit
  link : LinkUnit
  ladder : LadderUnit
  capture : CaptureUnit
  store : List StoreEntry
  queue : List QueuedCell
  strap : StrapUnit
  port : PortUnit
  resetLine : Bool
  free : Nat
  pending : List Instr
deriving DecidableEq, Repr

/-- No command of the part stops the model: R55 to R205 give every event an effect, so this type has no constructor. -/
inductive Fault
deriving DecidableEq, Repr

/-- Why a command has no outcome. -/
inductive Refusal where
  /-- Raised only by a dispatch arm whose command has no meaning yet; no arm raises it in this model. Safe: the model
  stops where the station would go on. -/
  | notModelled (mnemonic : String)
deriving DecidableEq, Repr

/-- A request slot after a reset (R17). -/
def Slot.reset : Slot := ⟨.mono8, ⟨0, 0, 0, 0⟩, ⟨0, 0⟩, .off, false, false⟩

/-- A roster entry after a reset (R61). -/
def RosterEntry.reset : RosterEntry := ⟨false, 0, false, 0⟩

/-- The nineteen counters at 0 (R204). -/
def Counters.zero : Counters := ⟨0, 0, 0, 0, 0, 0, 0, 0, 0, 0, 0, 0, 0, 0, 0, 0, 0, 0, 0⟩

/-- The machine right after a power-on with RESETn released (R172): every block at the reset value of its chapter,
cause POWER with count 0 (R173). DESIGN CHOICE (log entries 1, 2): of the three kinds of reset this is the power-on,
and the link is idle. -/
def State.reset : State where
  claims := ⟨[], false, tab4 fun _ => Slot.reset⟩
  frame := ⟨0, [], false, 0⟩
  membership := ⟨.strap, tab16 fun _ => RosterEntry.reset, 0, .stopped⟩
  recovery := ⟨false, 0, []⟩
  link := ⟨false, .notInUse, .idle, none, none⟩
  ladder := ⟨.stopped, 0, 0⟩
  capture := ⟨tab4 fun _ => .idle, false, 0⟩
  store := []
  queue := []
  strap := ⟨List.replicate 36 0, 0, .none, .power, 0, []⟩
  port := ⟨none, [], 0, Counters.zero, []⟩
  resetLine := false
  free := 0
  pending := []

end Sys2Proof.Machine
end

