-- ==== Sys2Proof/Machine/Flags.lean ====
section
/-! DEFINITION. The checks and classes that single values are put to: parity and syndrome of a header (R103), the
CRC-16 (R104, section 11.2), the class of a frame number (R36), saturating counts. -/

namespace Sys2Proof.Machine

/-- The odd parity of the bits at the positions that `sel` selects, positions counted from `p`. -/
def oddParityFrom (sel : Nat → Bool) : Nat → List Bool → Bool
  | _, [] => false
  | p, b :: rest => ((sel p && b) != oddParityFrom sel (p + 1) rest)

/-- Whether an odd number of the selected positions hold a one, position 0 first. -/
def oddParity (sel : Nat → Bool) (bits : List Bool) : Bool := oddParityFrom sel 0 bits

/-- Bit i of the syndrome (R103): the parity of every position whose number has bit i set. -/
def syndromeBit (bits : List Bool) (i : Nat) : Bool := oddParity (fun p => p.testBit i) bits

/-- The 7-bit syndrome of the 72 header positions (R103). -/
def syndrome (bits : List Bool) : Nat :=
  (syndromeBit bits 0).toNat + 2 * (syndromeBit bits 1).toNat + 4 * (syndromeBit bits 2).toNat +
    8 * (syndromeBit bits 3).toNat + 16 * (syndromeBit bits 4).toNat + 32 * (syndromeBit bits 5).toNat +
    64 * (syndromeBit bits 6).toNat

/-- The parity of all 72 positions (R103): `true` is odd. -/
def overallOdd (bits : List Bool) : Bool := oddParity (fun _ => true) bits

/-- The outcome of the header check (R103), with the 72 bits to use. -/
inductive HeaderCheck where
  | good (bits : List Bool)
  | repaired (bits : List Bool)
  | uncorrectable
deriving DecidableEq, Repr

/-- The bits with the one at position `p` inverted. -/
def invertAt (bits : List Bool) (p : Nat) : List Bool := bits.set p (!bits.getD p false)

/-- R103's table. -/
def checkHeader (bits : List Bool) : HeaderCheck :=
  let syn := syndrome bits
  match overallOdd bits with
  | false => if syn = 0 then .good bits else .uncorrectable
  | true =>
    if syn = 0 then .repaired bits
    else if syn ≤ 71 then .repaired (invertAt bits syn)
    else .uncorrectable

/-- One bit of the CRC register's shift against x^16 + x^12 + x^5 + 1 (section 11.2). -/
def crcShift (r : Word) : Word := if r.getLsbD 15 then (r <<< 1) ^^^ 0x1021#16 else r <<< 1

/-- One byte into the CRC register, most significant bit first. -/
def crcByte (r : Word) (b : Byte) : Word :=
  crcShift (crcShift (crcShift (crcShift (crcShift (crcShift (crcShift (crcShift (r ^^^ (b.setWidth 16 <<< 8)))))))))

/-- CRC-16 over bytes: initial value 0xFFFF, no reflection, no final inversion (R5, R104). -/
def crc16 (bytes : List Byte) : Word := bytes.foldl crcByte 0xFFFF#16

/-- The class of a heard frame number against the own one (R36). -/
inductive FrameClass where
  | current
  | ahead
  | behind
deriving DecidableEq, Repr

/-- R36: current when h equals f, ahead when (h − f) mod 65536 lies in 1..32767, behind when it lies in 32768..65535. -/
def frameClass (f h : Word) : FrameClass :=
  if h = f then .current else if (h - f).toNat ≤ 32767 then .ahead else .behind

/-- A 16-bit counter increased by `n`, saturating at 65535 (00 "Counters"). -/
def satAdd (c : Word) (n : Nat) : Word := if c.toNat + n ≤ 65535 then BitVec.ofNat 16 (c.toNat + n) else 65535#16

/-- An 8-bit count increased by 1, saturating at 255 (00 "Counters"). -/
def satInc8 (c : Byte) : Byte := if c = 255#8 then 255#8 else c + 1

end Sys2Proof.Machine
end

