-- ==== Sys2Proof/Machine/Layout.lean ====
section
/-! DEFINITION. The layouts of cells and of reply bodies (chapter 11): header word and positions, entry and roster
records, cell payloads, code values. -/

namespace Sys2Proof.Machine

/-- The bytes of a word, less significant byte first. -/
def wordBytes (w : Word) : List Byte := [w.extractLsb' 0 8, w.extractLsb' 8 8]

/-- The word at byte offset `i`, less significant byte first; a byte beyond the end counts as 0. -/
def wordAt (bytes : List Byte) (i : Nat) : Word := bytes.getD (i + 1) 0 ++ bytes.getD i 0

/-- The bits of a byte on the composite link, least significant bit first (section 5.1). -/
def linkBits (b : Byte) : List Bool :=
  [b.getLsbD 0, b.getLsbD 1, b.getLsbD 2, b.getLsbD 3, b.getLsbD 4, b.getLsbD 5, b.getLsbD 6, b.getLsbD 7]

/-- One byte from eight link bits. -/
def byteOfLinkBits (b0 b1 b2 b3 b4 b5 b6 b7 : Bool) : Byte :=
  BitVec.ofNat 8 (b0.toNat + 2 * b1.toNat + 4 * b2.toNat + 8 * b3.toNat + 16 * b4.toNat + 32 * b5.toNat + 64 * b6.toNat +
    128 * b7.toNat)

/-- The whole bytes that link bits carry. -/
def bytesOfLinkBits : List Bool → List Byte
  | b0 :: b1 :: b2 :: b3 :: b4 :: b5 :: b6 :: b7 :: rest => byteOfLinkBits b0 b1 b2 b3 b4 b5 b6 b7 :: bytesOfLinkBits rest
  | _ => []

/-- The n-bit value whose bit i is `f i`. -/
def bitsWhere (n : Nat) (f : Nat → Bool) : BitVec n :=
  (List.range n).foldl (fun acc i => if f i then acc ||| BitVec.twoPow n i else acc) 0

/-! ### The header (section 11.1, R206) -/

/-- The 64-bit data word of a header, bit 0 first: kind, sender, frame, control sequence, length, flags, aux. -/
def Header.dataWord (h : Header) : BitVec 64 :=
  h.aux ++ h.flags ++ h.length ++ h.sequence ++ h.frame ++ BitVec.ofNat 4 h.sender.val ++ h.kind

/-- The fields of a 64-bit data word. -/
def Header.ofDataWord (d : BitVec 64) : Header where
  kind := d.extractLsb' 0 4
  sender := (d.extractLsb' 4 4).toFin
  frame := d.extractLsb' 8 16
  sequence := d.extractLsb' 24 8
  length := d.extractLsb' 32 12
  flags := d.extractLsb' 44 4
  aux := d.extractLsb' 48 16

/-- The header position of data bit d (table of section 11.1). -/
def dataPosition (d : Nat) : Nat :=
  if d = 0 then 3 else if d ≤ 3 then d + 4 else if d ≤ 10 then d + 5 else if d ≤ 25 then d + 6 else if d ≤ 56 then d + 7
  else d + 8

/-- The data bit at a header position; none at position 0 and at the positions 2^i of the check bits. -/
def positionData (p : Nat) : Option Nat :=
  if p ≤ 2 then none else if p = 3 then some 0 else if p = 4 then none else if p ≤ 7 then some (p - 4)
  else if p = 8 then none else if p ≤ 15 then some (p - 5) else if p = 16 then none else if p ≤ 31 then some (p - 6)
  else if p = 32 then none else if p ≤ 63 then some (p - 7) else if p = 64 then none else some (p - 8)

/-- R206, first step: the data bits at their positions, check positions 0. -/
def spreadBits (d : BitVec 64) : List Bool :=
  (List.range 72).map fun p => match positionData p with
    | some i => d.getLsbD i
    | none => false

/-- R206: the 72 header positions of a data word. Each check bit ci, at position 2^i, makes the positions whose number
has bit i set even; P, at position 0, makes all 72 even. -/
def headerPositions (d : BitVec 64) : List Bool :=
  let data := spreadBits d
  let checked := (((((((data.set 1 (syndromeBit data 0)).set 2 (syndromeBit data 1)).set 4 (syndromeBit data 2)).set 8
    (syndromeBit data 3)).set 16 (syndromeBit data 4)).set 32 (syndromeBit data 5)).set 64 (syndromeBit data 6))
  checked.set 0 (overallOdd checked)

/-- The data word that 72 header positions hold. -/
def positionsWord (bits : List Bool) : BitVec 64 := bitsWhere 64 fun d => bits.getD (dataPosition d) false

/-! ### Code values (sections 11.1, 11.3, 11.5) -/

/-- The eight known kinds of cell. -/
inductive Kind where
  | hello
  | claim
  | release
  | tile
  | close
  | query
  | dump
  | bye
deriving DecidableEq, Repr

/-- The kind of a code, 1..8; the other codes are unknown (R102, R109). -/
def Kind.ofCode (c : BitVec 4) : Option Kind :=
  match c.toNat with
  | 1 => some .hello
  | 2 => some .claim
  | 3 => some .release
  | 4 => some .tile
  | 5 => some .close
  | 6 => some .query
  | 7 => some .dump
  | 8 => some .bye
  | _ => none

/-- The code of a kind. -/
def Kind.code : Kind → BitVec 4
  | .hello => 1
  | .claim => 2
  | .release => 3
  | .tile => 4
  | .close => 5
  | .query => 6
  | .dump => 7
  | .bye => 8

/-- The fixed payload length of a kind (R110); none for TILE and DUMP. -/
def Kind.fixedLength : Kind → Option Nat
  | .hello => some 9
  | .claim => some 10
  | .release => some 1
  | .tile => none
  | .close => some 0
  | .query => some 0
  | .dump => none
  | .bye => some 0

/-- A kind whose frame is classed (R36): all but QUERY and DUMP. -/
def Kind.classed : Kind → Bool
  | .query => false
  | .dump => false
  | .hello => true
  | .claim => true
  | .release => true
  | .tile => true
  | .close => true
  | .bye => true

/-- The kind of cell that a queued control cell is sent as. -/
def QueueKind.kind : QueueKind → Kind
  | .hello => .hello
  | .claim _ => .claim
  | .release _ => .release
  | .close _ => .close
  | .query => .query
  | .dump => .dump
  | .bye => .bye

def Format.code : Format → Nat
  | .mono8 => 0
  | .mono12p => 1
  | .rgb565 => 2
  | .rgb888 => 3

/-- The format of a two-bit code (R2). -/
def Format.ofBits (c : Nat) : Format :=
  match c % 4 with
  | 0 => .mono8
  | 1 => .mono12p
  | 2 => .rgb565
  | _ => .rgb888

def EntryState.code : EntryState → Nat
  | .pending => 0
  | .held => 1
  | .releasing => 2

/-- The entry state of a code; none for code 3 (R207). -/
def EntryState.ofCode (c : Nat) : Option EntryState :=
  match c with
  | 0 => some .pending
  | 1 => some .held
  | 2 => some .releasing
  | _ => none

def StationState.code : StationState → Byte
  | .strap => 0
  | .listen => 1
  | .syncing => 2
  | .member => 3
  | .suspect => 4
  | .left => 5
  | .muted _ => 6

def MuteCause.code : MuteCause → Byte
  | .strap => 1
  | .duplicate => 2
  | .collision => 3
  | .params => 4

/-- The MUTED cause of the STATUS reply: NONE outside MUTED (R192). -/
def StationState.muteCode : StationState → Byte
  | .muted c => c.code
  | .strap => 0
  | .listen => 0
  | .syncing => 0
  | .member => 0
  | .suspect => 0
  | .left => 0

def SlotState.code : SlotState → Nat
  | .off => 0
  | .wanted => 1
  | .proposed => 2
  | .waiting _ => 3
  | .active => 4
  | .dropping => 5

/-- The WAITING cause code of a slot state: 0 for none. -/
def SlotState.waitCode : SlotState → Nat
  | .waiting .overlap => 1
  | .waiting .full => 2
  | .off => 0
  | .wanted => 0
  | .proposed => 0
  | .active => 0
  | .dropping => 0

def ResetCause.code : ResetCause → Byte
  | .power => 1
  | .line => 2
  | .localPort => 3

def StrapDetail.code : StrapDetail → Byte
  | .none => 0
  | .noAnswer => 1
  | .tag => 2
  | .checksum => 3
  | .sensorKind => 4
  | .helloInterval => 5
  | .rosterTimeout => 6
  | .divider => 7
  | .frameTimeout => 8
  | .silenceWindow => 9
  | .compositeW => 10
  | .compositeH => 11

def SlotCause.code : SlotCause → Byte
  | .invalid => 1
  | .start => 2
  | .accepted => 3
  | .full => 8
  | .overlap => 9
  | .withdrawn => 10
  | .retry => 11
  | .released => 13
  | .suspect => 14
  | .install => 15
  | .unlisted c => c

def StateCause.code : StateCause → Byte
  | .start => 1
  | .rejoin => 2
  | .heard => 3
  | .founded => 4
  | .install => 5
  | .fallback => 6
  | .bye => 7
  | .gap => 8
  | .lost => 9
  | .ahead => 10
  | .omitted => 11
  | .digest => 12
  | .strap => 13
  | .duplicate => 14
  | .collision => 15
  | .params => 16

def RecoveryResult.code : RecoveryResult → Byte
  | .installed => 1
  | .abandoned => 2

def Status.code : Status → Byte
  | .done => 1
  | .refusedState => 2
  | .refusedArg => 3
  | .refusedCode => 4
  | .refusedCheck => 5

/-! ### Records (section 11.3) -/

def Entry.key (e : Entry) : TileKey := ⟨e.owner, e.slot⟩

/-- The four region words. -/
def Region.bytes (r : Region) : List Byte := wordBytes r.row0 ++ wordBytes r.rows ++ wordBytes r.col0 ++ wordBytes r.cols

/-- The region whose four words begin at offset `i`. -/
def regionAt (bytes : List Byte) (i : Nat) : Region :=
  ⟨wordAt bytes i, wordAt bytes (i + 2), wordAt bytes (i + 4), wordAt bytes (i + 6)⟩

/-- The 10-byte entry record; bit 7 of byte 1 is the outstanding mark of the TABLE reply. -/
def Entry.record (mark : Bool) (e : Entry) : List Byte :=
  BitVec.ofNat 8 (e.owner.val + 16 * e.slot.val) ::
    BitVec.ofNat 8 (e.format.code + 4 * e.state.code + 128 * mark.toNat) :: e.region.bytes

/-- The table digest (R5): CRC-16 over the entry records in table order, spare bits 0. -/
def tableDigest (table : List Entry) : Word := crc16 (table.flatMap (Entry.record false))

/-- The entry of the record that begins at offset `i`; none for state code 3 (R207). No owner-local part. -/
def entryAt (bytes : List Byte) (i : Nat) : Option Entry :=
  let b0 := bytes.getD i 0
  let b1 := bytes.getD (i + 1) 0
  match EntryState.ofCode ((b1.extractLsb' 2 2).toNat) with
  | none => none
  | some st =>
    some ⟨(b0.extractLsb' 0 4).toFin, (b0.extractLsb' 4 2).toFin, Format.ofBits (b1.extractLsb' 0 2).toNat, st,
      regionAt bytes (i + 2), none⟩

/-- The 2-byte roster record. -/
def RosterEntry.record (e : RosterEntry) : List Byte :=
  [BitVec.ofNat 8 (e.age % 16 + 64 * e.heard.toNat + 128 * e.present.toNat), e.sequence]

/-- The roster entry of a 2-byte record, as it stands in the record. -/
def rosterEntryOf (b0 b1 : Byte) : RosterEntry :=
  ⟨b0.getLsbD 7, (b0.extractLsb' 0 4).toNat, b0.getLsbD 6, b1⟩

/-- The roster in station number order. -/
def rosterBytes (roster : Vector RosterEntry 16) : List Byte := stationOrder.flatMap fun i => (roster[i]).record

/-! ### Cell payloads (section 11.3) -/

/-- The 16-bit set of stations: bit i stands for station i. -/
def stationBits (p : Station → Bool) : Word := bitsWhere 16 fun i => p (Fin.ofNat 16 i)

/-- What a HELLO payload carries (R67). -/
structure HelloBody where
  width : Word
  height : Word
  rosterTimeout : Byte
  digest : Word
  present : Word
deriving DecidableEq, Repr

def HelloBody.bytes (b : HelloBody) : List Byte :=
  wordBytes b.width ++ wordBytes b.height ++ [b.rosterTimeout] ++ wordBytes b.digest ++ wordBytes b.present

def helloOf (p : List Byte) : HelloBody := ⟨wordAt p 0, wordAt p 2, p.getD 4 0, wordAt p 5, wordAt p 7⟩

/-- What a CLAIM payload carries; slot and format are whole bytes (R207). -/
structure ClaimBody where
  slot : Byte
  format : Byte
  region : Region
deriving DecidableEq, Repr

def ClaimBody.bytes (b : ClaimBody) : List Byte := b.slot :: b.format :: b.region.bytes

def claimOf (p : List Byte) : ClaimBody := ⟨p.getD 0 0, p.getD 1 0, regionAt p 2⟩

/-- What a DUMP payload carries (R90). -/
structure DumpBody where
  requesters : Word
  entries : List Entry
  outstanding : BitVec 32
  roster : Vector RosterEntry 16
deriving DecidableEq, Repr

def DumpBody.bytes (b : DumpBody) : List Byte :=
  wordBytes b.requesters ++ [BitVec.ofNat 8 b.entries.length] ++
    [b.outstanding.extractLsb' 0 8, b.outstanding.extractLsb' 8 8, b.outstanding.extractLsb' 16 8, b.outstanding.extractLsb' 24 8] ++
    b.entries.flatMap (Entry.record false) ++ rosterBytes b.roster

/-- The records of a DUMP, `none` when one carries state code 3. -/
def entriesAt (p : List Byte) : Nat → Nat → Option (List Entry)
  | 0, _ => some []
  | n + 1, i =>
    match entryAt p i, entriesAt p n (i + 10) with
    | some e, some es => some (e :: es)
    | _, _ => none

/-- The DUMP that a heard payload carries; `none` when the entry count is above 32, the length is not 39 + 10 × (entry
count), or a record carries state code 3 (R91, R207). -/
def dumpOf (p : List Byte) : Option DumpBody :=
  let n := (p.getD 2 0).toNat
  if 32 < n || p.length != 39 + 10 * n then none
  else match entriesAt p n 7 with
    | none => none
    | some es =>
      some ⟨wordAt p 0, es, p.getD 6 0 ++ p.getD 5 0 ++ p.getD 4 0 ++ p.getD 3 0,
        tab16 fun i => rosterEntryOf (p.getD (7 + 10 * n + 2 * i.val) 0) (p.getD (8 + 10 * n + 2 * i.val) 0)⟩

/-! ### TILE cells (R102, R157) -/

/-- The tile row field (aux bits 2..13). -/
def tileRowField (row : Nat) : BitVec 12 := if row < 4096 then BitVec.ofNat 12 row else Config.wideTileRow row

/-- The aux field of a TILE: bits 0..1 slot, bits 2..13 tile row, bits 14..15 spare. -/
def tileAux (slot : SlotNo) (row : Nat) : Word := 0#2 ++ tileRowField row ++ BitVec.ofNat 2 slot.val

/-- The slot a TILE names. -/
def Header.tileSlot (h : Header) : SlotNo := (h.aux.extractLsb' 0 2).toFin

/-- LAST: bit 0 of the flags. -/
def Header.last (h : Header) : Bool := h.flags.getLsbD 0

/-- The payload length field. -/
def lengthField (n : Nat) : BitVec 12 := if n < 4096 then BitVec.ofNat 12 n else Config.longPayloadLength n

/-- The packed bytes of a store entry: none for an end marker (R154). -/
def StoreSort.packed : StoreSort → List Byte
  | .row b => b
  | .lastRow _ b => b
  | .endMarker _ => []

def StoreSort.isLast : StoreSort → Bool
  | .row _ => false
  | .lastRow _ _ => true
  | .endMarker _ => true

def StoreSort.isMarker : StoreSort → Bool
  | .row _ => false
  | .lastRow _ _ => false
  | .endMarker _ => true

/-- The payload of the TILE cell of an entry (R157). -/
def StoreSort.payload : StoreSort → List Byte
  | .row b => b
  | .lastRow m b => wordBytes (BitVec.ofNat 16 m) ++ b
  | .endMarker m => wordBytes (BitVec.ofNat 16 m)

/-! ### Local port bodies (section 11.5) -/

/-- The body of a NOTICE reply. -/
def Notice.bytes : Notice → List Byte
  | .slot n st c => [1, BitVec.ofNat 8 n.val, BitVec.ofNat 8 st.code, c.code]
  | .cut n f => [2, BitVec.ofNat 8 n.val] ++ wordBytes f
  | .state st c => [3, st.code, c.code]
  | .recovery r => [4, r.code]

/-- The slot byte of the STATUS body. -/
def Slot.statusByte (sl : Slot) : Byte :=
  BitVec.ofNat 8 (sl.state.code + 8 * sl.state.waitCode + 64 * sl.startOn.toNat + 128 * sl.offAfter.toNat)

/-- The nineteen counters in the order of section 11.5. -/
def Counters.bytes (c : Counters) : List Byte :=
  wordBytes c.headerFixed ++ wordBytes c.headerBad ++ wordBytes c.oversize ++ wordBytes c.aborted ++ wordBytes c.payloadBad ++
    wordBytes c.collisions ++ wordBytes c.unknownKind ++ wordBytes c.lag ++ wordBytes c.lateTile ++ wordBytes c.staleClose ++
    wordBytes c.seqGap ++ wordBytes c.digestMismatch ++ wordBytes c.paramsMismatch ++ wordBytes c.dumpsSent ++
    wordBytes c.dumpsInstalled ++ wordBytes c.queryUnanswered ++ wordBytes c.tilesCut ++ wordBytes c.linesDropped ++
    wordBytes c.rowsMissing

/-- The bytes of a reply as a read window shifts them (R208): status with the OVERRUN mark, body length, body, check byte. -/
def Reply.bytes (r : Reply) : List Byte :=
  let head := BitVec.ofNat 8 (r.status.code.toNat + 128 * r.overrun.toNat) :: (wordBytes (BitVec.ofNat 16 r.body.length) ++ r.body)
  head ++ [checkByte head]

end Sys2Proof.Machine
end

