-- ==== Sys2Proof/Machine/Operands.lean ====
section
/-! DEFINITION. Reading the operands of commands: the strap image and its judgement (chapter 09), sensor pixels and
their packing (chapter 07), request bodies (section 11.5). -/

namespace Sys2Proof.Machine

/-! ### The strap image (R175 to R177, section 11.4) -/

/-- The 36 words of a 72-byte image, less significant byte first (R176). -/
def imageWords (bytes : List Byte) : List Word := (List.range 36).map fun k => wordAt bytes (2 * k)

/-- Word k of the image. -/
def strapWord (words : List Word) (k : Nat) : Word := words.getD k 0

/-- The sensor kinds (R177). -/
inductive SensorKind where
  | color
  | mono
deriving DecidableEq, Repr

def strapNumber (words : List Word) : Station := ((strapWord words 1).extractLsb' 0 4).toFin
def strapSensorCode (words : List Word) : Nat := ((strapWord words 1).extractLsb' 4 4).toNat
def strapHelloInterval (words : List Word) : Nat := ((strapWord words 1).extractLsb' 8 4).toNat
def strapRosterTimeout (words : List Word) : Nat := ((strapWord words 1).extractLsb' 12 4).toNat
def strapDivider (words : List Word) : Nat := (strapWord words 2).toNat
def strapFrameTimeout (words : List Word) : Nat := (strapWord words 3).toNat
def strapSilenceWindow (words : List Word) : Nat := (strapWord words 4).toNat
def strapWidth (words : List Word) : Nat := (strapWord words 5).toNat
def strapHeight (words : List Word) : Nat := (strapWord words 6).toNat

/-- The sensor kind: 0 COLOR, 1 MONO (R177); a started station's image holds one of the two. -/
def strapSensor (words : List Word) : SensorKind := if strapSensorCode words = 0 then .color else .mono

/-- The plain sum of the words, carries out of bit 15 discarded (R176). -/
def wordSum (words : List Word) : Word := words.foldl (· + ·) 0

/-- The configuration fields in the order of R177's table: the first one out of range gives the detail. -/
def judgeFields (words : List Word) : Option StrapDetail :=
  if 1 < strapSensorCode words then some .sensorKind
  else if strapHelloInterval words < 1 || 8 < strapHelloInterval words then some .helloInterval
  else if strapRosterTimeout words < 3 || strapRosterTimeout words < strapHelloInterval words + 2 then some .rosterTimeout
  else if strapDivider words < 1 || 255 < strapDivider words then some .divider
  else if strapFrameTimeout words < 1 || 255 < strapFrameTimeout words then some .frameTimeout
  else if strapSilenceWindow words < 16 || 4095 < strapSilenceWindow words then some .silenceWindow
  else if strapWidth words < 64 || 4096 < strapWidth words || strapWidth words % 16 != 0 then some .compositeW
  else if strapHeight words < 16 || 4096 < strapHeight words then some .compositeH
  else none

/-- R176: tag, then checksum, then the fields; none when the image passes. -/
def judgeImage (words : List Word) : Option StrapDetail :=
  if strapWord words 0 != 0x53A1#16 then some .tag
  else if wordSum words != 0 then some .checksum
  else judgeFields words

/-- What an attempt found: the detail it failed with, or the words that passed (R175, R176). -/
def judgeRead (read : StrapRead) : StrapDetail ⊕ List Word :=
  match read with
  | .sdaHeldLow => .inl .noAnswer
  | .notAcknowledged _ => .inl .noAnswer
  | .image bytes =>
    match judgeImage (imageWords bytes) with
    | some d => .inl d
    | none => .inr (imageWords bytes)

/-- A byte that the station sends, most significant bit first, with the memory's acknowledge bit (R175). -/
def sentByte (b : Byte) (acknowledged : Bool) : List StrapSignal :=
  (bitsOfBytes [b]).map StrapSignal.sent ++ [.memoryAck acknowledged]

/-- A data byte that the station clocks in, most significant bit first, with its own acknowledge bit (R175). -/
def clockedByte (b : Byte) (acknowledged : Bool) : List StrapSignal :=
  (bitsOfBytes [b]).map StrapSignal.clocked ++ [.stationAck acknowledged]

/-- The first bytes that the station sends, up to the one that is not acknowledged (R175). -/
def selectSignals (unacknowledged : Fin 4) : List StrapSignal :=
  match unacknowledged with
  | 0 => sentByte 0x58 false
  | 1 => sentByte 0x58 true ++ sentByte 0x00 false
  | 2 => sentByte 0x58 true ++ sentByte 0x00 true ++ sentByte 0x00 false
  | 3 => sentByte 0x58 true ++ sentByte 0x00 true ++ sentByte 0x00 true ++ [.repeatedStart] ++ sentByte 0x59 false

/-- What passes on SDA in a transaction (R175): nothing when SDA was held low before the start condition, a stop behind
the byte that the memory did not acknowledge, or the four bytes, the 72 data bytes, the last one not acknowledged, and
the stop. -/
def strapSignals (read : StrapRead) : List StrapSignal :=
  match read with
  | .sdaHeldLow => []
  | .notAcknowledged k => [.start] ++ selectSignals k ++ [.stop]
  | .image bytes =>
    [.start] ++ sentByte 0x58 true ++ sentByte 0x00 true ++ sentByte 0x00 true ++ [.repeatedStart] ++ sentByte 0x59 true ++
      ((List.range 72).flatMap fun k => clockedByte (bytes.getD k 0) (k != 71)) ++ [.stop]

/-- The word k of slot record n (section 11.4). -/
def recordWord (words : List Word) (n : SlotNo) (k : Nat) : Word := strapWord words (7 + 7 * n.val + k)

/-- The enable bit of slot record n (R181). -/
def recordEnabled (words : List Word) (n : SlotNo) : Bool := (recordWord words n 0).getLsbD 15

/-- The region of slot record n. -/
def recordRegion (words : List Word) (n : SlotNo) : Region :=
  ⟨recordWord words n 1, recordWord words n 2, recordWord words n 3, recordWord words n 4⟩

/-! ### Regions and formats (R8, R9, R18) -/

/-- The packed row length of `cols` columns (R9, R150). -/
def rowBytes (f : Format) (cols : Nat) : Nat :=
  match f with
  | .mono8 => cols
  | .mono12p => cols * 3 / 2
  | .rgb565 => cols * 2
  | .rgb888 => cols * 3

/-- R8: the RANGE conditions, on unbounded integers; W and H are the station's own. -/
def rangeFails (w h slot format : Nat) (r : Region) : Bool :=
  3 < slot || 3 < format || r.cols.toNat < 16 || r.cols.toNat % 16 != 0 || r.col0.toNat % 16 != 0 || r.rows.toNat == 0 ||
    w < r.col0.toNat + r.cols.toNat || h < r.row0.toNat + r.rows.toNat

/-- R9: the WIDTH condition. -/
def widthFails (f : Format) (r : Region) : Bool := 2048 < rowBytes f r.cols.toNat

/-- R18: the formats a sensor kind allows. -/
def formatAllowed (k : SensorKind) (f : Format) : Bool :=
  match k, f with
  | .color, .rgb888 => true
  | .color, .rgb565 => true
  | .color, .mono8 => true
  | .color, .mono12p => false
  | .mono, .mono12p => true
  | .mono, .mono8 => true
  | .mono, .rgb565 => false
  | .mono, .rgb888 => false

/-- R18: the local checks of a slot's contents; `true` when they pass. -/
def localChecks (words : List Word) (n : SlotNo) (f : Format) (r : Region) (c : Crop) : Bool :=
  !rangeFails (strapWidth words) (strapHeight words) n.val f.code r && !widthFails f r &&
    c.x.toNat + r.cols.toNat ≤ 4096 && c.y.toNat + r.rows.toNat ≤ 4096 && formatAllowed (strapSensor words) f

/-- R10: two regions share a pixel when their row spans and their column spans intersect. -/
def regionsOverlap (a b : Region) : Bool :=
  max a.row0.toNat b.row0.toNat < min (a.row0.toNat + a.rows.toNat) (b.row0.toNat + b.rows.toNat) &&
    max a.col0.toNat b.col0.toNat < min (a.col0.toNat + a.cols.toNat) (b.col0.toNat + b.cols.toNat)

/-! ### Pixels (R134, R150 to R152) -/

/-- The four values a pixel is taken as (R134). -/
structure Pixel where
  r : Byte
  g : Byte
  b : Byte
  y : BitVec 12
deriving DecidableEq, Repr

/-- R134. DESIGN CHOICE (log entry 22): on a COLOR sensor R, G, B are pixel data lines 23..16, 15..8, 7..0; a MONO
pixel is on lines 11..0. -/
def pixelOf (k : SensorKind) (lines : BitVec 24) : Pixel :=
  match k with
  | .color =>
    let r := lines.extractLsb' 16 8
    let g := lines.extractLsb' 8 8
    let b := lines.extractLsb' 0 8
    ⟨r, g, b, BitVec.ofNat 12 (4 * (r.toNat + 2 * g.toNat + b.toNat))⟩
  | .mono =>
    let y := lines.extractLsb' 0 12
    ⟨y.extractLsb' 4 8, y.extractLsb' 4 8, y.extractLsb' 4 8, y⟩

/-- R151: the 16-bit RGB565 value. -/
def rgb565 (p : Pixel) : Word := p.r.extractLsb' 3 5 ++ p.g.extractLsb' 2 6 ++ p.b.extractLsb' 3 5

/-- R152: pixel pairs, three bytes each. -/
def packPairs : List Pixel → List Byte
  | a :: b :: rest => a.y.extractLsb' 4 8 :: b.y.extractLsb' 4 8 :: (b.y.extractLsb' 0 4 ++ a.y.extractLsb' 0 4) :: packPairs rest
  | [a] => Config.unpairedPixel a.y
  | [] => []

/-- R150: the packed bytes of a row's pixels, left to right. -/
def packRow (f : Format) (pixels : List Pixel) : List Byte :=
  match f with
  | .mono8 => pixels.map fun p => p.y.extractLsb' 4 8
  | .mono12p => packPairs pixels
  | .rgb565 => pixels.flatMap fun p => wordBytes (rgb565 p)
  | .rgb888 => pixels.flatMap fun p => [p.r, p.g, p.b]

/-- R132: pixels beyond the 4096th of a line are disregarded. -/
def sensorPixels (k : SensorKind) (line : List (BitVec 24)) : List Pixel := (line.take 4096).map (pixelOf k)

/-! ### Request bodies (section 11.5) -/

/-- The fixed body length of a request code, 1..11 (section 10.3). -/
def bodyLength (code : Nat) : Nat :=
  match code with
  | 4 => 1
  | 6 => 1
  | 7 => 1
  | 8 => 14
  | _ => 0

/-- The slot byte of a slot request. -/
def bodySlot (body : List Byte) : Nat := (body.getD 0 0).toNat

/-- The slot a slot request names, once its byte is 0..3. -/
def slotOfBody (body : List Byte) : SlotNo := Fin.ofNat 4 (bodySlot body)

/-- R197: the format of a SLOT-SET body, bits 0..1 of its format byte. -/
def setFormat (body : List Byte) : Format := Format.ofBits (body.getD 1 0).toNat

/-- The crop origin of a SLOT-SET body. -/
def setCrop (body : List Byte) : Crop := ⟨wordAt body 10, wordAt body 12⟩

end Sys2Proof.Machine
end

