-- ==== Sys2Proof/Machine/Receiver.lean ====
section
/-! DEFINITION. The composite link's symbols: what a transmitter drives for a cell (R100, R206) and how a receiver
judges what it read from the first dominant level to idle (R100 to R105). -/

namespace Sys2Proof.Machine

/-- R100: the bits with one fill bit of the other level after every run of 6 of one level; `lvl` and `run` are the level
and length of the run so far. No fill bit follows the last bit. -/
def stuff (lvl : Level) (run : Nat) : List Bool → List Level
  | [] => []
  | b :: rest =>
    if run = 6 then (!lvl) :: b :: stuff b (if b = !lvl then 2 else 1) rest
    else b :: stuff b (if b = lvl then run + 1 else 1) rest

/-- The bits of a cell (section 5.1): the 72 header positions, and, when there is a payload, its bytes and the two CRC
bytes, less significant byte first. -/
def cellBits (c : Cell) : List Bool :=
  headerPositions c.header.dataWord ++
    (if c.payload = [] then [] else (c.payload ++ wordBytes (crc16 c.payload)).flatMap linkBits)

/-- The levels a transmitter drives for a cell: the start delimiter, then the bits with their fill bits (R100). -/
def cellSignal (c : Cell) : List Level :=
  List.replicate 8 dominant ++ [recessive] ++ stuff recessive 1 (cellBits c)

/-- How many bit times the levels have been recessive at their end. -/
def recessiveTail (levels : List Level) : Nat := (levels.reverse.takeWhile (· == recessive)).length

/-- What the pair carries, up to idle, when exactly these levels are driven on it (R101). -/
def untilIdle (levels : List Level) : List Level := levels ++ List.replicate (10 - recessiveTail levels) recessive

/-- The abort mark: dominant for 16 bit times (section 5.1). -/
def abortMark : List Level := List.replicate 16 dominant

/-- The bits a receiver takes from a cell after its start delimiter, each with whether a dominant level follows it, and
whether an abort mark or code violation ended the cell (R101). -/
structure Taken where
  bits : List (Bool × Bool)
  dominantAhead : Bool
  violated : Bool
deriving DecidableEq, Repr

/-- R100 and R101: counts runs, removes the bit after each run of 6, and treats as an abort mark a dominant run longer
than 6 and a recessive run of 7 to 9 that ends in a dominant level. -/
def takeBits (lvl : Level) (run : Nat) : List Level → Taken
  | [] => ⟨[], false, false⟩
  | b :: rest =>
    if b = lvl then
      if run < 6 then
        let t := takeBits b (run + 1) rest
        ⟨(b, t.dominantAhead) :: t.bits, t.dominantAhead || b == dominant, t.violated⟩
      else if b = dominant then ⟨[], true, true⟩
      else takeBits b (run + 1) rest
    else if run < 6 then
      let t := takeBits b 1 rest
      ⟨(b, t.dominantAhead) :: t.bits, t.dominantAhead || b == dominant, t.violated⟩
    else if run = 6 then
      let t := takeBits b 1 rest
      ⟨t.bits, t.dominantAhead || b == dominant, t.violated⟩
    else ⟨[], true, true⟩

/-- The class of a cell (R105). -/
inductive CellClass where
  | heard (cell : Cell)
  | headerHeard (header : Header)
  | damaged
deriving DecidableEq, Repr

/-- The damage causes with a counter (R105). -/
inductive Damage where
  | aborted
  | headerBad
  | oversize
deriving DecidableEq, Repr

/-- What the receiver makes of a cell: its class, its damage cause, and whether its header was repaired (R105). -/
structure Judged where
  cls : CellClass
  damage : Option Damage
  repaired : Bool
deriving DecidableEq, Repr

/-- A damaged cell with no usable or no repaired header. -/
def Judged.damagedBy (d : Damage) : Judged := ⟨.damaged, some d, false⟩

/-- A heard cell whose header was good. -/
def Judged.heardGood (c : Cell) : Judged := ⟨.heard c, none, false⟩

/-- R104, R105 lines 3 to 6, for a cell whose header checked: `taken` are the bits from the header's first on. -/
def judgePayload (taken : List (Bool × Bool)) (h : Header) (repaired : Bool) : Judged :=
  let len := h.length.toNat
  if 2050 < len then ⟨.damaged, some .oversize, repaired⟩
  else
    let need := if len = 0 then 72 else 72 + 8 * (len + 2)
    if taken.length < need then ⟨.damaged, some .aborted, repaired⟩
    else if (taken.getD (need - 1) (false, false)).2 then ⟨.damaged, some .aborted, repaired⟩
    else
      let bytes := bytesOfLinkBits (((taken.take need).drop 72).map Prod.fst)
      let payload := bytes.take len
      if len = 0 then ⟨.heard ⟨h, []⟩, none, repaired⟩
      else if wordAt bytes len = crc16 payload then ⟨.heard ⟨h, payload⟩, none, repaired⟩
      else ⟨.headerHeard h, none, repaired⟩

/-- R105 for the bits taken after a correct start delimiter. -/
def judgeTaken (t : Taken) : Judged :=
  if t.violated then .damagedBy .aborted
  else if t.bits.length < 72 then .damagedBy .headerBad
  else match checkHeader ((t.bits.take 72).map Prod.fst) with
    | .uncorrectable => .damagedBy .headerBad
    | .good bits => judgePayload t.bits (Header.ofDataWord (positionsWord bits)) false
    | .repaired bits => judgePayload t.bits (Header.ofDataWord (positionsWord bits)) true

/-- R105: the class of the cell that these levels are, from the first dominant level to idle. DEDUCED (log entry 35): an
abort mark that begins within the start delimiter leaves no correct delimiter, and the cell counts as header-bad. -/
def judgeLevels (levels : List Level) : Judged :=
  if levels.take 9 = List.replicate 8 dominant ++ [recessive] then judgeTaken (takeBits recessive 1 (levels.drop 9))
  else .damagedBy .headerBad

/-- R110: a heard cell of a fixed-length kind whose payload has another length. -/
def malformed (c : Cell) : Bool :=
  match Kind.ofCode c.header.kind with
  | none => false
  | some k =>
    match k.fixedLength with
    | none => false
    | some n => c.header.length.toNat != n

end Sys2Proof.Machine
end

