-- ==== Sys2Proof/Machine/Ops.lean ====
section
/-! DEFINITION. The named operations over the station's registers and collections, shared by every command. -/

namespace Sys2Proof.Machine

/-! ### Readings -/

/-- The station's own number, from the working copy (R180). -/
def State.own (s : State) : Station := strapNumber s.strap.words

def State.rosterTimeout (s : State) : Nat := strapRosterTimeout s.strap.words

def State.slotAt (s : State) (n : SlotNo) : Slot := s.claims.slots[n]

def State.rosterAt (s : State) (i : Station) : RosterEntry := s.membership.roster[i]

def State.contextAt (s : State) (n : SlotNo) : Context := s.capture.contexts[n]

/-- Whether the roster holds a station PRESENT (R61). -/
def State.present (s : State) (i : Station) : Bool := (s.rosterAt i).present

/-- The claim table entry with a tile key (R4: at most one). -/
def State.entryOf (s : State) (k : TileKey) : Option Entry := s.claims.table.find? fun e => e.key == k

/-- The key of slot n's own tile (R2). -/
def State.ownKey (s : State) (n : SlotNo) : TileKey := ⟨s.own, n⟩

def State.ownEntry (s : State) (n : SlotNo) : Option Entry := s.entryOf (s.ownKey n)

def State.isMember (s : State) : Bool := s.membership.state == .member

/-- Whether the station is MUTED, of whatever cause (R55). -/
def State.isMuted (s : State) : Bool :=
  match s.membership.state with
  | .muted _ => true
  | .strap => false
  | .listen => false
  | .syncing => false
  | .member => false
  | .suspect => false
  | .left => false

def State.isOutstanding (s : State) (k : TileKey) : Bool := s.frame.outstanding.contains k

/-- The level of ATTN (R203): asserted while the notice queue holds at least one notice. -/
def State.attn (s : State) : Bool := !s.port.notices.isEmpty

/-- The length of the frame timer in gap units (R33). -/
def State.frameTimerLength (s : State) : Nat := strapFrameTimeout s.strap.words * 1024

/-- The length of the query timer in gap units (R78). -/
def State.queryTimerLength (s : State) : Nat := 2 * strapFrameTimeout s.strap.words * 1024

/-- The length of the silence timer in gap units (R57). -/
def State.silenceTimerLength (s : State) : Nat := strapSilenceWindow s.strap.words

/-- The reference clock periods of one gap unit (R117). -/
def State.gapUnitPeriods (s : State) : Nat := strapDivider s.strap.words * 32

/-- The row count of R155. -/
def storeRows (store : List StoreEntry) : Nat := store.countP fun e => !e.sort.isMarker

/-- The marker count of R155. -/
def storeMarkers (store : List StoreEntry) : Nat := store.countP fun e => e.sort.isMarker

/-- The byte count of R155. -/
def storeBytes (store : List StoreEntry) : Nat := (store.map fun e => e.sort.packed.length).sum

/-- Every tile key, in rising order of owner, then slot. -/
def allKeys : List TileKey := stationOrder.flatMap fun o => slotOrder.map fun n => ⟨o, n⟩

/-- The keys that satisfy `p`, in rising order: the outstanding set as data (R32). -/
def keySet (p : TileKey → Bool) : List TileKey := allKeys.filter p

/-- The stations that satisfy `p`, in rising order: the dump-pending set as data (R78). -/
def stationSet (p : Station → Bool) : List Station := stationOrder.filter p

/-! ### Notices and counters (R201, R204) -/

/-- R201: a notice joins the queue at the tail; when eight wait it is dropped and notices-lost is increased. -/
def State.deposit (s : State) (n : Notice) : State :=
  if s.port.notices.length < 8 then { s with port := { s.port with notices := s.port.notices ++ [n] } }
  else { s with port := { s.port with noticesLost := satInc8 s.port.noticesLost } }

/-- The counters changed by `f`. -/
def State.count (s : State) (f : Counters → Counters) : State :=
  { s with port := { s.port with counters := f s.port.counters } }

/-! ### Slots, contexts, roster -/

def State.setSlot (s : State) (n : SlotNo) (sl : Slot) : State :=
  { s with claims := { s.claims with slots := s.claims.slots.set n.val sl n.isLt } }

/-- Slot n's state becomes `st`. -/
def State.setSlotState (s : State) (n : SlotNo) (st : SlotState) : State := s.setSlot n { s.slotAt n with state := st }

/-- Slot n's state becomes `st` in an event that deposits its SLOT notice (R30). -/
def State.changeSlot (s : State) (n : SlotNo) (st : SlotState) (cause : SlotCause) : State :=
  (s.setSlotState n st).deposit (.slot n st cause)

def State.setContext (s : State) (n : SlotNo) (c : Context) : State :=
  { s with capture := { s.capture with contexts := s.capture.contexts.set n.val c n.isLt } }

/-- All four contexts go IDLE (R148). -/
def State.idleContexts (s : State) : State :=
  { s with capture := { s.capture with contexts := tab4 fun _ => .idle } }

def State.setRoster (s : State) (i : Station) (e : RosterEntry) : State :=
  { s with membership := { s.membership with roster := s.membership.roster.set i.val e i.isLt } }

def State.setState (s : State) (st : StationState) : State := { s with membership := { s.membership with state := st } }

/-- `f` for each slot in slot order (R20, R30, R144). -/
def State.forSlots (s : State) (f : State → SlotNo → State) : State := slotOrder.foldl f s

/-! ### The line store (R154 to R160) -/

/-- R160: every entry that `p` matches leaves, the rest close up. -/
def State.purge (s : State) (p : StoreEntry → Bool) : State := { s with store := s.store.filter fun e => !p e }

/-- R156: whether the store takes a packed row of this length. -/
def storeTakes (store : List StoreEntry) (len : Nat) : Bool := storeRows store < 60 && storeBytes store + len ≤ 65536

/-- An entry joins the store at its tail. -/
def State.append (s : State) (e : StoreEntry) : State := { s with store := s.store ++ [e] }

/-! ### The control queue (R162 to R168) -/

/-- The nine places of R162: one CLAIM or RELEASE a slot, and one each of HELLO, CLOSE, QUERY, DUMP and BYE. -/
def QueueKind.place : QueueKind → Fin 9
  | .claim n => n.castLE (by decide)
  | .release n => n.castLE (by decide)
  | .hello => 4
  | .close _ => 5
  | .query => 6
  | .dump => 7
  | .bye => 8

/-- Whether the queue holds a cell in the place of `k`, queued or in flight. -/
def State.queues (s : State) (k : QueueKind) : Bool := s.queue.any fun c => c.kind.place == k.place

/-- R163: the cell joins at the tail, unless the limit of R162 already holds one. -/
def State.enqueue (s : State) (k : QueueKind) : State :=
  if s.queues k then s else { s with queue := s.queue ++ [⟨k, none, false⟩] }

/-- R165, R70: the cells that `p` matches and that are not in flight (R166) leave the queue; the own control sequence
counter is decreased by 1 for each that holds a given number. -/
def State.withdraw (s : State) (p : QueueKind → Bool) : State :=
  let gone := fun (c : QueuedCell) => p c.kind && !c.inFlight
  { s with
    queue := s.queue.filter fun c => !gone c
    membership := { s.membership with
      sequence := s.membership.sequence - BitVec.ofNat 8 (s.queue.countP fun c => gone c && c.given.isSome) } }

/-- A CLAIM or RELEASE of any slot, HELLO or CLOSE: what a reinstall withdraws (R96). -/
def QueueKind.isPlan : QueueKind → Bool
  | .hello => true
  | .claim _ => true
  | .release _ => true
  | .close _ => true
  | .query => false
  | .dump => false
  | .bye => false

def QueueKind.isClose : QueueKind → Bool
  | .close _ => true
  | .hello => false
  | .claim _ => false
  | .release _ => false
  | .query => false
  | .dump => false
  | .bye => false

/-- Whether a BYE is queued or being transmitted (R197, R198). -/
def State.byeQueued (s : State) : Bool := s.queues .bye

/-- R20: a HELLO is waiting in the control queue: queued and not in flight (log entry 17). -/
def State.helloWaits (s : State) : Bool := s.queue.any fun c => c.kind == .hello && !c.inFlight

/-! ### The ladder (R118 to R120, R128) -/

/-- R119: the rank of a station on a grid that starts with this L. -/
def rankOf (own : Station) (l : Option Station) : Station :=
  match l with
  | some x => own - x - 1
  | none => own

/-- R118, R119: the grid starts before slot 0, ranked from L. -/
def State.startGrid (s : State) : State :=
  { s with ladder := { s.ladder with grid := .running none, rank := rankOf s.own s.link.lastSender } }

def State.setAttempts (s : State) (n : Nat) : State := { s with ladder := { s.ladder with attempts := n } }

/-- R120, R169, R170: the cell the station may send, by its state; none when it does not contend. -/
def State.selected (s : State) : Option CellSource :=
  match s.membership.state with
  | .member =>
    match s.queue, s.store with
    | c :: _, _ => some (.queue c.kind)
    | [], _ :: _ => some .store
    | [], [] => none
  | .syncing => if s.queues .query then some (.queue .query) else none
  | .suspect => if s.queues .query then some (.queue .query) else none
  | .strap => none
  | .listen => none
  | .left => none
  | .muted _ => none

/-- R120. -/
def State.contends (s : State) : Bool := s.selected.isSome

/-- R128: after a withdrawal, purge or state change that leaves no cell to send the attempt count is 0; in MUTED it is
frozen. Judged at the end of the event (log entry 25). -/
def State.settleAttempts (s : State) : State :=
  if s.isMuted || s.contends then s else s.setAttempts 0

/-! ### Timers (R33, R57, R78) -/

def State.setFrameTimer (s : State) (b : Bool) : State := { s with frame := { s.frame with timerRunning := b } }

def State.setQueryTimer (s : State) (b : Bool) : State := { s with recovery := { s.recovery with timerRunning := b } }

def State.setSilence (s : State) (t : SilenceTimer) : State := { s with membership := { s.membership with silence := t } }

/-- R57: the silence timer starts from its full length, held at once while a signal is on the link (log entry 27). -/
def State.startSilence (s : State) : State := s.setSilence (if s.link.busy then .held else .running)

/-! ### Station-level changes (R74, R77) -/

/-- R77: entry into MUTED with a cause. The claim table, roster, frame, slots, own counter and attempt counts freeze. -/
def State.enterMuted (s : State) (cause : MuteCause) (why : StateCause) : State :=
  let frozen : State := { s with
    queue := []
    store := []
    link := { s.link with transmitter := .idle, flight := none }
    capture := { s.capture with contexts := tab4 fun _ => .idle }
    frame := { s.frame with timerRunning := false }
    membership := { s.membership with state := .muted cause, silence := .stopped }
    recovery := { s.recovery with timerRunning := false, dumpPending := [] } }
  frozen.deposit (.state (.muted cause) why)

/-- The values R74 sets at LEFT and R75 sets once more at REJOIN. -/
def State.clearPlan (s : State) : State :=
  { s with
    store := []
    queue := []
    capture := { s.capture with contexts := tab4 fun _ => .idle }
    claims := ⟨[], false, tab4 fun n => { s.claims.slots[n] with state := .off, startOn := false, offAfter := false }⟩
    frame := ⟨0, [], false, 0⟩
    membership := { s.membership with roster := tab16 fun _ => RosterEntry.reset, silence := .stopped }
    recovery := ⟨false, 0, []⟩
    ladder := { s.ladder with attempts := 0 } }

/-- R74: entry into LEFT. -/
def State.enterLeft (s : State) : State := (s.clearPlan.setState .left).deposit (.state .left .bye)

end Sys2Proof.Machine
end

