-- ==== Sys2Proof/Machine/Plan.lean ====
section
/-! DEFINITION. The replicated plan: the request slots (R19 to R25), the claim table's cells (R7 to R13), completion and
the close and open of composite frames (R39 to R44, R63, R66, R136, R146). -/

namespace Sys2Proof.Machine

/-! ### What slots queue (R19, R20, R25) -/

/-- R20: slot n's CLAIM is queued and the slot becomes PROPOSED, when the slot is WANTED, the station MEMBER, and the
own entry PRESENT or a HELLO waiting. -/
def State.claimIfReady (s : State) (n : SlotNo) : State :=
  if (s.slotAt n).state == .wanted && s.isMember && (s.present s.own || s.helloWaits) then
    (s.setSlotState n .proposed).enqueue (.claim n)
  else s

/-- R20 for each slot in slot order. -/
def State.serveClaims (s : State) : State := s.forSlots State.claimIfReady

/-- R25: slot n's RELEASE is queued when the slot is DROPPING, the station MEMBER and its entry PENDING or HELD. -/
def State.releaseIfDue (s : State) (n : SlotNo) : State :=
  if (s.slotAt n).state == .dropping && s.isMember &&
      (s.ownEntry n).any (fun e => e.state == .pending || e.state == .held) then
    s.enqueue (.release n)
  else s

/-- R25 for each slot in slot order. -/
def State.serveReleases (s : State) : State := s.forSlots State.releaseIfDue

/-- R19: an OFF slot with its start-on mark set becomes WANTED with its START notice. -/
def State.startSlot (s : State) (n : SlotNo) : State :=
  if (s.slotAt n).state == .off && (s.slotAt n).startOn then s.changeSlot n .wanted .start else s

/-- R19: the start-on slots at an entry into MEMBER; then every start-on mark is cleared. -/
def State.startOnSlots (s : State) : State :=
  let t := s.forSlots State.startSlot
  let unmarked := tab4 fun n => { t.claims.slots[n] with startOn := false }
  { t with claims := { t.claims with slots := unmarked } }

/-- The cells that an entry into MEMBER or a reinstall queues (R65, R19, R20, R25): a HELLO, the CLAIMs, the RELEASEs. -/
def State.memberCells (s : State) : State := ((s.enqueue .hello).startOnSlots).serveClaims.serveReleases

/-! ### CLAIM (R7 to R11, R21, R22) -/

/-- The refusal causes of R7, in its order. -/
inductive ClaimRefusal where
  | notMember
  | range
  | width
  | duplicate
  | full
  | overlap
deriving DecidableEq, Repr

/-- R7: the checks in their fixed order; `none` when the CLAIM is accepted. -/
def State.judgeClaim (s : State) (sender : Station) (b : ClaimBody) : Option ClaimRefusal :=
  if !s.present sender then some .notMember
  else if rangeFails (strapWidth s.strap.words) (strapHeight s.strap.words) b.slot.toNat b.format.toNat b.region then some .range
  else if widthFails (Format.ofBits b.format.toNat) b.region then some .width
  else if s.claims.table.any fun e => e.key == ⟨sender, Fin.ofNat 4 b.slot.toNat⟩ then some .duplicate
  else if 32 ≤ s.claims.table.length then some .full
  else if s.claims.table.any fun e => regionsOverlap e.region b.region then some .overlap
  else none

/-- R11: the entry an accepted CLAIM appends, with the owner-local part at the sender (R3). -/
def claimedEntry (sender : Station) (b : ClaimBody) (crop : Option Crop) : Entry :=
  let n : SlotNo := Fin.ofNat 4 b.slot.toNat
  ⟨sender, n, Format.ofBits b.format.toNat, .pending, b.region, crop.map fun c => ⟨c, n⟩⟩

/-- R21: the own slot after its CLAIM is heard accepted. -/
def State.claimAccepted (s : State) (n : SlotNo) : State :=
  if (s.slotAt n).offAfter then
    ((s.setSlot n { s.slotAt n with state := .dropping, offAfter := false }).enqueue (.release n)).deposit
      (.slot n .dropping .accepted)
  else (s.setSlotState n .active).deposit (.slot n .active .accepted)

/-- The slot state of a free value (log entry 20). -/
def refusedState : RefusedSlot → SlotState
  | .off => .off
  | .wanted => .wanted
  | .waitingOverlap => .waiting .overlap
  | .waitingFull => .waiting .full

/-- R22: the own slot after its CLAIM is heard refused. For the causes that R22 does not list the new state and the
notice's cause are free values (log entry 20). -/
def State.claimRefused (s : State) (n : SlotNo) (why : ClaimRefusal) : State :=
  let outcome (st : SlotState) (c : SlotCause) : State :=
    (s.setSlot n { s.slotAt n with state := st, offAfter := false }).deposit (.slot n st c)
  let open_ : State :=
    let t := outcome (refusedState (Config.refusedSlot s.free)) (.unlisted (Config.refusedCauseCode s.free))
    { t with free := t.free + 1 }
  match why with
  | .full => outcome (if (s.slotAt n).offAfter then .off else .waiting .full) .full
  | .overlap => outcome (if (s.slotAt n).offAfter then .off else .waiting .overlap) .overlap
  | .notMember => open_.serveClaims
  | .range => open_.serveClaims
  | .width => open_.serveClaims
  | .duplicate => open_.serveClaims

/-- R7, R11, R21, R22: a CLAIM applied to the table. `crop` is the crop origin captured with an own CLAIM, `none` for
another station's. -/
def State.applyClaim (s : State) (sender : Station) (b : ClaimBody) (crop : Option Crop) : State :=
  let n : SlotNo := Fin.ofNat 4 b.slot.toNat
  match s.judgeClaim sender b with
  | none =>
    let t := { s with claims := { s.claims with table := s.claims.table ++ [claimedEntry sender b crop] } }
    if crop.isSome then t.claimAccepted n else t
  | some why => if crop.isSome then s.claimRefused n why else s

/-! ### RELEASE and BYE in the table (R12, R13, R25) -/

/-- The table without the entry of a key. -/
def withoutKey (table : List Entry) (k : TileKey) : List Entry := table.filter fun e => !(e.key == k)

/-- The table with the entry of a key RELEASING (R12). -/
def releaseKey (table : List Entry) (k : TileKey) : List Entry :=
  table.map fun e => if e.key == k then { e with state := .releasing } else e

/-- R25: the own DROPPING slot becomes OFF with its RELEASED notice. -/
def State.slotReleased (s : State) (n : SlotNo) : State :=
  if (s.slotAt n).state == .dropping then s.changeSlot n .off .released else s

/-- R12, R25: a RELEASE applied to the table; `own` when the station sent it. -/
def State.applyRelease (s : State) (sender : Station) (slot : Byte) (own : Bool) : State :=
  if 3 < slot.toNat then s
  else
    let n : SlotNo := Fin.ofNat 4 slot.toNat
    let k : TileKey := ⟨sender, n⟩
    match s.entryOf k with
    | none => if own then s.slotReleased n else s
    | some e =>
      match e.state with
      | .pending =>
        let t := { s with claims := { s.claims with table := withoutKey s.claims.table k, removalMark := true } }
        if own then t.slotReleased n else t
      | .held =>
        { s with claims := { s.claims with table := releaseKey s.claims.table k } }
      | .releasing => s

/-- R13: a PENDING entry of the BYE's sender. -/
def byeRemoves (sender : Station) (e : Entry) : Bool := e.owner == sender && e.state == .pending

/-- R13: the table after a BYE: its sender's PENDING entries gone, the others RELEASING. -/
def byeEntries (table : List Entry) (sender : Station) : List Entry :=
  (table.filter fun e => !byeRemoves sender e).map fun e =>
    if e.owner == sender then { e with state := .releasing } else e

/-- R13: a BYE's table effect. -/
def State.byeTable (s : State) (sender : Station) : State :=
  let mark := s.claims.removalMark || s.claims.table.any (byeRemoves sender)
  { s with claims := { s.claims with table := byeEntries s.claims.table sender, removalMark := mark } }

/-- R73: a BYE's roster effect at the other stations. -/
def State.byeRoster (s : State) (sender : Station) : State :=
  if s.present sender then
    s.setRoster sender { s.rosterAt sender with age := s.rosterTimeout - 1, heard := false }
  else s

/-! ### Closing and opening a frame (R43, R44) -/

/-- The cause a close records (R43). -/
inductive CloseCause where
  | last
  | bye
  | close
deriving DecidableEq, Repr

/-- R63: one roster entry at a close; the own entry is not aged. -/
def agedEntry (timeout : Nat) (own : Bool) (e : RosterEntry) : RosterEntry :=
  if e.present && !own then
    let age := if e.heard then 0 else e.age + 1
    if timeout ≤ age then { e with present := false, age := 0, heard := false } else { e with age := age, heard := false }
  else { e with heard := false }

/-- R63: the roster aged at a close. -/
def State.agedRoster (s : State) : Vector RosterEntry 16 :=
  tab16 fun i => agedEntry s.rosterTimeout (i == s.own) (s.rosterAt i)

/-- R15, steps 1 and 2: an entry leaves when its owner became ABSENT at this close or when it is RELEASING. -/
def State.leavesAtOpen (s : State) (e : Entry) : Bool :=
  (s.present e.owner && !(s.agedRoster[e.owner]).present) || e.state == .releasing

/-- R15, steps 1 to 3: the table after the open step. -/
def State.openedTable (s : State) : List Entry :=
  (s.claims.table.filter fun e => !s.leavesAtOpen e).map fun e =>
    if e.state == .pending then { e with state := .held } else e

/-- R15, step 5, for one slot: a DROPPING slot whose entry was removed becomes OFF (R25); with the removal mark set a
WAITING slot becomes WANTED (R24). -/
def slotPass (mark : Bool) (removed : List Entry) (s : State) (n : SlotNo) : State :=
  match (s.slotAt n).state with
  | .dropping => if removed.any fun e => e.key == s.ownKey n then s.changeSlot n .off .released else s
  | .waiting _ => if mark then s.changeSlot n .wanted .retry else s
  | .off => s
  | .wanted => s
  | .proposed => s
  | .active => s

/-- Roster aging, the table's open step and the slot pass (R63, R15), with what the slots then queue (R20, R25). -/
def State.openTable (s : State) : State :=
  let removed := s.claims.table.filter s.leavesAtOpen
  let mark := s.claims.removalMark || !removed.isEmpty
  let t := { s with
    membership := { s.membership with roster := s.agedRoster }
    claims := { s.claims with table := s.openedTable, removalMark := mark } }
  let t := t.forSlots (slotPass mark removed)
  { t with claims := { t.claims with removalMark := false } }.serveReleases.serveClaims

/-- The keys of the HELD entries (R44). -/
def heldKeys (table : List Entry) : List TileKey := keySet fun k => table.any fun e => e.key == k && e.state == .held

/-- The frame unit's part (R44): the number advances, the set is formed anew, the timer restarts in MEMBER and stops in
SUSPECT, and a CLOSE queued for the closed frame is withdrawn (R48). -/
def State.openFrame (s : State) : State :=
  let closed := s.frame.number
  let t := { s with frame := { s.frame with
    number := closed + 1, outstanding := heldKeys s.claims.table, timerRunning := s.isMember } }
  t.withdraw fun k => k == QueueKind.close closed

/-- R66: whether the HELLO schedule queues a HELLO for this frame. -/
def State.helloScheduled (s : State) : Bool :=
  let i := strapHelloInterval s.strap.words
  s.isMember && s.frame.number.toNat % i == s.own.val % i

/-- R66 at an open, and R20's CLAIMs behind the HELLO. -/
def State.scheduleHello (s : State) : State := if s.helloScheduled then (s.enqueue .hello).serveClaims else s

/-- The frame a context holds (R135). -/
def Context.frame? : Context → Option Word
  | .idle => none
  | .armed f => some f
  | .capturing f _ _ => some f
  | .done f => some f

/-- R146: the context is ARMED or CAPTURING for this frame. -/
def Context.unfinishedFor (f : Word) : Context → Bool
  | .armed g => g == f
  | .capturing g _ _ => g == f
  | .idle => false
  | .done _ => false

/-- R146: slot n's tile of frame f is unfinished. -/
def State.unfinished (s : State) (f : Word) (n : SlotNo) : Bool :=
  (s.contextAt n).unfinishedFor f || s.store.any fun e => e.slot == n && e.frame == f

/-- R146: the cut of slot n's tile of the closed frame f. -/
def cutSlot (f : Word) (s : State) (n : SlotNo) : State :=
  if s.unfinished f n then
    (((s.purge fun e => e.slot == n && e.frame == f).setContext n .idle).deposit (.cut n f)).count
      fun c => { c with tilesCut := satAdd c.tilesCut 1 }
  else s

/-- R136: each context is ARMED for the new frame if its key is outstanding, and IDLE otherwise. -/
def State.armContexts (s : State) : State :=
  let armed := tab4 fun n => if s.isOutstanding (s.ownKey n) then Context.armed s.frame.number else .idle
  { s with capture := { s.capture with contexts := armed } }

/-- R43, R44: the frame closes with a cause and the next one opens on the same cell, part by part in R44's order (the
cut among them, log entry 14). -/
def State.closeFrame (s : State) (cause : CloseCause) : State :=
  let closed := s.frame.number
  let removed := s.claims.table.filter s.leavesAtOpen
  let t := s.openTable.openFrame.scheduleHello
  let t := match cause with
    | .close => t.forSlots (cutSlot closed)
    | .last => t
    | .bye => t
  t.armContexts.purge fun e => removed.any fun r => r.key == s.ownKey e.slot

/-- R39: a completed tile leaves the outstanding set; the frame closes when that empties the set. -/
def State.completeTile (s : State) (k : TileKey) : State :=
  if s.isOutstanding k then
    let rest := s.frame.outstanding.filter fun x => !(x == k)
    let t := { s with frame := { s.frame with outstanding := rest } }
    if rest.isEmpty then t.closeFrame .last else t
  else s

/-- R13, R41, R73, R74: a BYE applied; `own` when the station sent it. -/
def State.applyBye (s : State) (sender : Station) (own : Bool) : State :=
  let rest := s.frame.outstanding.filter fun k => !(k.owner == sender)
  let emptied := s.frame.outstanding.any (fun k => k.owner == sender) && rest.isEmpty
  let t := s.byeTable sender
  let t := { t with frame := { t.frame with outstanding := rest } }
  let t := if own then t else t.byeRoster sender
  let t := if emptied then t.closeFrame .bye else t
  if own then t.enterLeft else t

end Sys2Proof.Machine
end

