-- ==== Sys2Proof/Machine/Recovery.lean ====
section
/-! DEFINITION. Divergence and recovery (chapter 04): the suspect triggers, SUSPECT, QUERY, the DUMP and its install, and
the two fallbacks. -/

namespace Sys2Proof.Machine

/-! ### Triggers (R79 to R83) -/

/-- What a cell's end shows of the five suspect triggers, and whether the digest-mismatch counter moves. -/
structure Signs where
  gap : Bool
  lost : Bool
  ahead : Bool
  omitted : Bool
  digest : Bool
  digestDiffers : Bool
deriving DecidableEq, Repr

/-- No sign. -/
def Signs.none : Signs := ⟨false, false, false, false, false, false⟩

/-- R79: the first trigger in the order GAP, LOST, AHEAD, OMITTED, DIGEST. -/
def Signs.first (g : Signs) : Option StateCause :=
  if g.gap then some .gap else if g.lost then some .lost else if g.ahead then some .ahead
  else if g.omitted then some .omitted else if g.digest then some .digest else Option.none

/-- R69: a HELLO's W, H and roster timeout equal the station's own strap values. -/
def State.paramsMatch (s : State) (b : HelloBody) : Bool :=
  b.width.toNat == strapWidth s.strap.words && b.height.toNat == strapHeight s.strap.words &&
    b.rosterTimeout.toNat == s.rosterTimeout

/-- Whether a DUMP's requester set names a station. -/
def DumpBody.names (d : DumpBody) (i : Station) : Bool := d.requesters.getLsbD i.val

/-- R84, R26: a PROPOSED slot becomes WANTED at the entry into SUSPECT. -/
def State.suspectSlot (s : State) (n : SlotNo) : State :=
  if (s.slotAt n).state == .proposed then
    (s.setSlot n { s.slotAt n with state := .wanted, offAfter := false }).deposit (.slot n .wanted .suspect)
  else s

/-- R84: entry into SUSPECT with the trigger's cause. -/
def State.enterSuspect (s : State) (why : StateCause) : State :=
  let t := s.withdraw fun k => k.isPlan || k == .dump
  -- R84: a BYE's given number is returned too, and the BYE receives a fresh one
  let numbered := t.queue.countP fun c => c.kind == .bye && c.given.isSome
  let unnumbered := t.queue.map fun c => if c.kind == .bye then { c with given := Option.none } else c
  let t := { t with
    queue := unnumbered
    membership := { t.membership with sequence := t.membership.sequence - BitVec.ofNat 8 numbered }
    recovery := { t.recovery with dumpPending := [] } }
  let t := (t.forSlots State.suspectSlot).enqueue .query
  (({ t with recovery := { t.recovery with attempts := 1 } }).setState .suspect).deposit (.state .suspect why)

/-! ### Installing a DUMP (R93 to R96) -/

/-- R207: a roster record as it is installed against the station's own roster timeout. -/
def installedRoster (timeout : Nat) (e : RosterEntry) : RosterEntry :=
  if e.present && e.age < timeout then e else { e with present := false, age := 0, heard := false }

/-- R93: the installed roster with the DUMP's own header recorded. -/
def State.dumpRoster (s : State) (h : Header) (d : DumpBody) : Vector RosterEntry 16 :=
  tab16 fun i =>
    let e := installedRoster s.rosterTimeout d.roster[i]
    if i == h.sender then { e with heard := e.heard || e.present, sequence := h.sequence } else e

/-- R93: the installed entries, the owner-local parts of own entries reattached from the slots. -/
def State.dumpTable (s : State) (d : DumpBody) : List Entry :=
  d.entries.map fun e => if e.owner == s.own then { e with localPart := some ⟨(s.slotAt e.slot).crop, e.slot⟩ } else e

/-- R93, R54: the keys of the entries whose positions the bitmap marks. -/
def DumpBody.outstandingKeys (d : DumpBody) : List TileKey :=
  keySet fun k => d.entries.zipIdx.any fun (e, i) => e.key == k && d.outstanding.getLsbD i

/-- R94: slot n's own entry is HELD or RELEASING and its key outstanding. -/
def State.awaited (s : State) (n : SlotNo) : Bool :=
  (s.ownEntry n).any (fun e => e.state == .held || e.state == .releasing) && s.isOutstanding (s.ownKey n)

/-- R95: a slot's new state from its state, its start-on mark and its own entry's state. -/
def installedSlot (st : SlotState) (startOn : Bool) (e : Option EntryState) : SlotState :=
  match e with
  | some .releasing => .dropping
  | some _ =>
    match st with
    | .off => if startOn then .active else .dropping
    | .wanted => .active
    | .proposed => .active
    | .waiting _ => .active
    | .active => .active
    | .dropping => .dropping
  | Option.none =>
    match st with
    | .off => .off
    | .wanted => .wanted
    | .proposed => .wanted
    | .waiting c => .waiting c
    | .active => .wanted
    | .dropping => .off

/-- R95: one slot re-derived; a change of state deposits its INSTALL notice, and the off-after mark is cleared. -/
def State.rederiveSlot (s : State) (n : SlotNo) : State :=
  let sl := s.slotAt n
  let st := installedSlot sl.state sl.startOn ((s.ownEntry n).map Entry.state)
  let t := s.setSlot n { sl with state := st, offAfter := false }
  if st == sl.state then t else t.deposit (.slot n st .install)

/-- R93: the replicated part of an install. -/
def State.installPlan (s : State) (h : Header) (d : DumpBody) : State :=
  { s with
    claims := { s.claims with table := s.dumpTable d, removalMark := true }
    membership := { s.membership with roster := s.dumpRoster h d }
    frame := { s.frame with number := h.frame, outstanding := d.outstandingKeys, timerRunning := true }
    recovery := { s.recovery with timerRunning := false, attempts := 0 } }

/-- R94: the store keeps the installed frame's awaited own tiles; a context is kept when it holds the installed frame
and its tile is awaited, made ARMED when only the latter holds, and made IDLE otherwise. -/
def State.installLocal (s : State) : State :=
  let f := s.frame.number
  let t := s.purge fun e => !(e.frame == f && s.awaited e.slot)
  let contexts := tab4 fun n =>
    if s.awaited n then
      if (s.contextAt n).frame? == some f then s.contextAt n else .armed f
    else .idle
  { t with capture := { t.capture with contexts := contexts } }

/-- R93 to R96: the install of a DUMP that names the station. -/
def State.install (s : State) (h : Header) (d : DumpBody) : State :=
  let reinstall := s.isMember
  let t := ((s.installPlan h d).installLocal).forSlots State.rederiveSlot
  let t := t.withdraw fun k => k == .query || (reinstall && k.isPlan)
  let t := (t.setState .member).memberCells
  let t := if reinstall then t else t.deposit (.state .member .install)
  (t.deposit (.recovery .installed)).count fun c => { c with dumpsInstalled := satAdd c.dumpsInstalled 1 }

/-- R91: the requesters a heard DUMP names leave the dump-pending set; when that empties it, the queued DUMP is withdrawn. -/
def State.requestersServed (s : State) (d : DumpBody) : State :=
  let rest := s.recovery.dumpPending.filter fun i => !d.names i
  let t := { s with recovery := { s.recovery with dumpPending := rest } }
  if rest.isEmpty then t.withdraw fun k => k == .dump else t

/-- R88: a QUERY is answered: its sender joins the dump-pending set and a DUMP is queued. -/
def State.answerQuery (s : State) (sender : Station) : State :=
  let asked := stationSet fun i => i == sender || s.recovery.dumpPending.contains i
  { s with recovery := { s.recovery with dumpPending := asked } }.enqueue .dump

/-! ### Fallbacks (R97, R98) -/

/-- The notices and the counter that end an episode unanswered (R97, R98). -/
def State.abandonNotices (s : State) : State :=
  ((s.deposit (.state .member .fallback)).deposit (.recovery .abandoned)).count
    fun c => { c with queryUnanswered := satAdd c.queryUnanswered 1 }

/-- R97: the self-trust fallback of a SUSPECT station. -/
def State.selfTrust (s : State) : State :=
  let t := { s with
    recovery := { s.recovery with timerRunning := false, attempts := 0 }
    frame := { s.frame with timerRunning := true }
    membership := { s.membership with state := .member } }
  t.memberCells.abandonNotices

/-- R98: the SYNCING fallback. -/
def State.syncingFallback (s : State) : State :=
  let t := { s with
    claims := { s.claims with table := [], removalMark := false }
    frame := ⟨s.frame.lastHeard, [], true, s.frame.lastHeard⟩
    recovery := { s.recovery with timerRunning := false, attempts := 0 }
    membership := { s.membership with state := .member, roster := tab16 fun _ => RosterEntry.reset } }
  t.memberCells.abandonNotices

end Sys2Proof.Machine
end

