-- ==== Sys2Proof/Machine/CellEnd.lean ====
section
/-! DEFINITION. CELL_END: the link goes idle, the cell that ends is classed, counted and handed to the units (R101 to
R110), in every station state. -/

namespace Sys2Proof.Machine

/-! ### The header-level recordings and HELLO (R62, R64, R68, R69, R71) -/

/-- R62: liveness of a PRESENT sender. -/
def State.live (s : State) (i : Station) : State :=
  if s.present i then s.setRoster i { s.rosterAt i with heard := true } else s

/-- R71: the control sequence becomes the sender's last sequence. -/
def State.recordSequence (s : State) (i : Station) (q : Byte) : State :=
  s.setRoster i { s.rosterAt i with sequence := q }

/-- The payload of a heard cell of this kind that is not malformed (R110). -/
def usable (k : Kind) (p : Option (List Byte)) (len : Nat) : Option (List Byte) :=
  match k.fixedLength with
  | none => p
  | some n => if len = n then p else none

/-- R64: the own HELLO makes the own entry PRESENT with age 0; WANTED slots then queue their CLAIMs (R20). -/
def State.ownHello (s : State) : State :=
  if s.present s.own then s
  else (s.setRoster s.own { s.rosterAt s.own with present := true, age := 0 }).serveClaims

/-- R68, R69: another station's HELLO, current and well sized. -/
def State.peerHello (s : State) (sender : Station) (b : HelloBody) : State :=
  if s.paramsMatch b then
    if s.present sender then s
    else s.setRoster sender { s.rosterAt sender with present := true, age := 0, heard := true }
  else s.count fun c => { c with paramsMismatch := satAdd c.paramsMismatch 1 }

/-- The roster's part of a cell of kind `k` at a MEMBER or SUSPECT station: a HELLO's (R64, R68, R69). -/
def State.helloPart (s : State) (k : Kind) (cls : FrameClass) (h : Header) (p : Option (List Byte)) (own : Bool) : State :=
  match k, cls, usable k p h.length.toNat with
  | .hello, .current, some bytes => if own then s.ownHello else s.peerHello h.sender (helloOf bytes)
  | _, _, _ => s

/-- R80: GAP, judged for a control cell of a sender that was PRESENT before, except a DUMP that names the station (R91). -/
def gapSign (k : Kind) (wasPresent : Bool) (last q : Byte) (named : Bool) : Bool :=
  k != .tile && wasPresent && q != last + 1 && !named

/-- R81: LOST. -/
def lostSign (k : Kind) (cls : FrameClass) (p : Option (List Byte)) : Bool :=
  (k == .hello || k == .claim || k == .release) && p.isNone && cls != .behind

/-- R79 to R83: the signs of a cell another station sent, at a MEMBER, after `helloPart`. -/
def State.signs (s : State) (k : Kind) (cls : FrameClass) (h : Header) (p : Option (List Byte)) (wasPresent : Bool)
    (last : Byte) : Signs :=
  let named := match k, p.bind dumpOf with
    | .dump, some d => d.names s.own
    | _, _ => false
  let base : Signs := ⟨gapSign k wasPresent last h.sequence named, lostSign k cls p, k.classed && cls == .ahead, false, false, false⟩
  match k, cls, usable k p h.length.toNat with
  | .hello, .current, some bytes =>
    let b := helloOf bytes
    if wasPresent && s.paramsMatch b then
      let holds := b.present.getLsbD s.own.val
      let differs := holds && b.digest != tableDigest s.claims.table
      { base with omitted := !holds && s.present s.own, digest := differs && h.sender.val < s.own.val, digestDiffers := differs }
    else base
  | _, _, _ => base

/-- The counters of the triggers (R80, R83). -/
def countSigns (g : Signs) (c : Counters) : Counters :=
  let c := if g.gap then { c with seqGap := satAdd c.seqGap 1 } else c
  if g.digestDiffers then { c with digestMismatch := satAdd c.digestMismatch 1 } else c

/-- R37: the counter of a behind cell. -/
def State.countBehind (s : State) (k : Kind) : State :=
  s.count fun c => match k with
    | .tile => { c with lateTile := satAdd c.lateTile 1 }
    | .close => { c with staleClose := satAdd c.staleClose 1 }
    | .hello => { c with lag := satAdd c.lag 1 }
    | .claim => { c with lag := satAdd c.lag 1 }
    | .release => { c with lag := satAdd c.lag 1 }
    | .bye => { c with lag := satAdd c.lag 1 }
    | .query => c
    | .dump => c

/-- The rules of a current cell's own kind at a MEMBER or SUSPECT station (R7, R12, R13, R39, R42). `bytes` is the
payload of a heard, well-sized cell. -/
def State.currentCell (s : State) (k : Kind) (h : Header) (bytes : Option (List Byte)) (own : Option Flight) : State :=
  match k, bytes with
  | .tile, _ => if h.last then s.completeTile ⟨h.sender, h.tileSlot⟩ else s
  | .claim, some p => s.applyClaim h.sender (claimOf p) (own.map Flight.crop)
  | .release, some p => s.applyRelease h.sender (p.getD 0 0) own.isSome
  | .bye, some _ => s.applyBye h.sender own.isSome
  | .close, some _ => s.closeFrame .close
  | _, _ => s

/-- R87, R88: a heard, well-sized QUERY at a MEMBER or SUSPECT station. The query timer runs in SYNCING and SUSPECT only
(R78), and no QUERY of a MEMBER is on the link (R96 withdraws it). -/
def State.queryCell (s : State) (sender : Station) (own : Bool) : State :=
  if s.isMember then (if own then s else s.answerQuery sender) else (if own then s.setQueryTimer true else s)

/-- R91, R92: a heard DUMP at a MEMBER or SUSPECT station. -/
def State.dumpCell (s : State) (h : Header) (p : List Byte) (own : Bool) : State :=
  let s := if own then s.count fun c => { c with dumpsSent := satAdd c.dumpsSent 1 } else s
  match dumpOf p with
  | none => s
  | some d =>
    let s := if s.isMember then s.requestersServed d else s
    if d.names s.own then s.install h d else s

/-- The rules of a cell's kind at a MEMBER or SUSPECT station, by its frame class (R36 to R38). -/
def State.kindRules (s : State) (k : Kind) (cls : FrameClass) (h : Header) (p : Option (List Byte)) (own : Option Flight) :
    State :=
  match k.classed, cls with
  | true, .current => s.currentCell k h (usable k p h.length.toNat) own
  | true, .behind => s.countBehind k
  | true, .ahead => s
  | false, _ =>
    match k, usable k p h.length.toNat with
    | .query, some _ => s.queryCell h.sender own.isSome
    | .dump, some bytes => s.dumpCell h bytes own.isSome
    | _, _ => s

/-- R79: a good-header cell at a MEMBER or SUSPECT station, past the duplicate-number check: liveness, frame class, the
HELLO's roster effect, the triggers, the control sequence, the entry into SUSPECT, the kind's rules. `p` is the payload
of a heard cell, `none` for a header-heard one; `own` is the flight of an own cell heard. -/
def State.planCell (s : State) (h : Header) (p : Option (List Byte)) (own : Option Flight) : State :=
  let before := s.rosterAt h.sender
  let t := s.live h.sender
  match Kind.ofCode h.kind with
  | none => t
  | some k =>
    let cls := frameClass s.frame.number h.frame
    let t := t.helloPart k cls h p own.isSome
    let g := if s.isMember && own.isNone then t.signs k cls h p before.present before.sequence else Signs.none
    let t := t.count (countSigns g)
    let t := if k == .tile then t else t.recordSequence h.sender h.sequence
    let t := match g.first with
      | some why => t.enterSuspect why
      | none => t
    t.kindRules k cls h p own

/-! ### LISTEN and SYNCING (R58, R60) -/

/-- A heard, well-sized HELLO whose parameters differ (R69). -/
def State.helloDisagrees (s : State) (h : Header) (p : Option (List Byte)) : Bool :=
  match Kind.ofCode h.kind with
  | some .hello =>
    match usable .hello p h.length.toNat with
    | some bytes => !s.paramsMatch (helloOf bytes)
    | none => false
  | _ => false

def State.recordFrame (s : State) (f : Word) : State := { s with frame := { s.frame with lastHeard := f } }

/-- R58: a good-header cell in LISTEN, past the duplicate-number check. -/
def State.listenCell (s : State) (h : Header) (p : Option (List Byte)) : State :=
  if s.helloDisagrees h p then s.enterMuted .params .params
  else
    let t := ((s.setSilence .stopped).recordFrame h.frame).enqueue .query
    (({ t with recovery := { t.recovery with attempts := 1 } }).setState .syncing).deposit (.state .syncing .heard)

/-- R60, R87, R92: a good-header cell in SYNCING, past the duplicate-number check. -/
def State.syncingCell (s : State) (h : Header) (p : Option (List Byte)) (own : Bool) : State :=
  let t := s.recordFrame h.frame
  if s.helloDisagrees h p then t.enterMuted .params .params
  else if own then
    if Kind.ofCode h.kind == some .query then t.setQueryTimer true else t
  else
    match Kind.ofCode h.kind, p.bind dumpOf with
    | some .dump, some d => if d.names s.own then t.install h d else t
    | _, _ => t

/-! ### The units (R106, R108) -/

/-- R76: the duplicate-number check. -/
def State.duplicate (s : State) (h : Header) (own : Option Flight) : Bool := h.sender == s.own && own.isNone

/-- A good-header cell handed to the units, by station state (R108). -/
def State.units (s : State) (h : Header) (p : Option (List Byte)) (own : Option Flight) : State :=
  match s.membership.state with
  | .strap => s
  | .muted _ => s
  | .left => if s.duplicate h own then s.enterMuted .duplicate .duplicate else s
  | .listen => if s.duplicate h own then s.enterMuted .duplicate .duplicate else s.listenCell h p
  | .syncing => if s.duplicate h own then s.enterMuted .duplicate .duplicate else s.syncingCell h p own.isSome
  | .member => if s.duplicate h own then s.enterMuted .duplicate .duplicate else s.planCell h p own
  | .suspect => if s.duplicate h own then s.enterMuted .duplicate .duplicate else s.planCell h p own

/-- The units' part of a judged cell (R106). -/
def State.handOver (s : State) (c : CellClass) (own : Option Flight) : State :=
  match c with
  | .heard cell => s.units cell.header (some cell.payload) own
  | .headerHeard h => s.units h none own
  | .damaged => s

/-! ### The link interface (R101, R105, R107, R112, R113) -/

/-- The header a class gives the receiver (R106). -/
def CellClass.header? : CellClass → Option Header
  | .heard c => some c.header
  | .headerHeard h => some h
  | .damaged => none

/-- R109, R110: the cell counts as of unknown kind. -/
def CellClass.countsUnknown : CellClass → Bool
  | .heard c => Kind.ofCode c.header.kind == none || malformed c
  | .headerHeard h => Kind.ofCode h.kind == none
  | .damaged => false

/-- The link counters of a judged cell (R105, R109, R110, R116). -/
def countJudged (j : Judged) (c : Counters) : Counters :=
  let c := match j.damage with
    | some .aborted => { c with aborted := satAdd c.aborted 1 }
    | some .headerBad => { c with headerBad := satAdd c.headerBad 1 }
    | some .oversize => { c with oversize := satAdd c.oversize 1 }
    | none => c
  let c := match j.cls with
    | .headerHeard _ => { c with payloadBad := satAdd c.payloadBad 1 }
    | .heard _ => c
    | .damaged => c
  let c := if j.repaired then { c with headerFixed := satAdd c.headerFixed 1 } else c
  if j.cls.countsUnknown then { c with unknownKind := satAdd c.unknownKind 1 } else c

/-- What the receiver makes of the levels, given the transmitter's report on an own cell: a mismatch is a cell ended by
an abort mark (R113), a matched cell is heard as it was sent unless it ran on or carried a code violation (R112). -/
def ownJudged (flight : Option Flight) (j : Judged) : Judged :=
  match flight with
  | none => j
  | some f =>
    match f.report with
    | .mismatched => .damagedBy .aborted
    | .matched => if j.cls == .damaged then j else .heardGood f.cell
    | .none => .damagedBy .aborted

/-- The receiver's part of a cell's end (R105, R107, R57, R118): counters, L, the silence timer and the grid. -/
def State.receiverPart (s : State) (j : Judged) : State :=
  let t := s.count (countJudged j)
  let t := { t with link := { t.link with lastSender := j.cls.header?.map Header.sender } }
  (if t.membership.state == .listen then t.setSilence .running else t).startGrid

/-- R112, R158, R164: the own cell heard leaves its queue or the store; the attempt count becomes 0. -/
def State.ownCellLeaves (s : State) (src : CellSource) : State :=
  let t := match src with
    | .queue k => { s with queue := s.queue.eraseP fun c => c.kind == k }
    | .store => { s with store := s.store.drop 1 }
  t.setAttempts 0

/-- R23: an aborted CLAIM whose off-after mark is set is withdrawn and its slot becomes OFF. -/
def State.withdrawOffAfter (s : State) (n : SlotNo) : State :=
  if (s.slotAt n).offAfter then
    ((s.withdraw fun k => k == .claim n).setSlot n { s.slotAt n with state := .off, offAfter := false }).deposit
      (.slot n .off .withdrawn)
  else s

/-- R113, R159, R164, R129: the own cell ended by an abort, or damaged after its last bit (R112): the in-flight marks
clear, the attempt count rises, and at 4 the station enters MUTED(COLLISION). DEDUCED (log entry 34): at the fourth
abort R23's withdrawal is not made, so the slot freezes PROPOSED with its off-after mark. -/
def State.ownCellAborted (s : State) (src : CellSource) (mismatch : Bool) : State :=
  let t := if mismatch then s.count fun c => { c with collisions := satAdd c.collisions 1 } else s
  let queue := t.queue.map fun c => { c with inFlight := false }
  let store := t.store.map fun e => { e with inFlight := false }
  let t := { t with queue := queue, store := store }.setAttempts (t.ladder.attempts + 1)
  if 4 ≤ t.ladder.attempts then t.enterMuted .collision .collision
  else
    match src with
    | .queue (.claim n) => (t.withdrawOffAfter n).serveClaims
    | .queue _ => t.serveClaims
    | .store => t

/-- A cell's end at a receiver in use (R105 to R107). -/
def State.cellJudged (s : State) (j : Judged) : State :=
  match s.link.flight with
  | none => (s.receiverPart j).handOver j.cls none
  | some f =>
    let j := ownJudged (some f) j
    let t := s.receiverPart j
    let t := { t with link := { t.link with flight := none } }
    match j.cls with
    | .damaged => t.ownCellAborted f.source (f.report == .mismatched)
    | .heard c => (t.ownCellLeaves f.source).handOver (.heard c) (some f)
    | .headerHeard h => (t.ownCellLeaves f.source).handOver (.headerHeard h) (some f)

/-- The link goes idle and the cell that was on it, as the receiver judges it, ends. While the transmitter drives, the
link cannot go idle (log entry 7). A receiver that waits for idle is taken into use and judges nothing (R101, R118). -/
def State.cellEnds (s : State) (j : Judged) : State :=
  if s.link.transmitter != .idle then s
  else
    let s := { s with link := { s.link with busy := false } }
    match s.link.receiver with
    | .notInUse => s
    | .awaitingIdle =>
      let t := { s with link := { s.link with receiver := .inUse } }
      (if t.membership.state == .listen then t.setSilence .running else t).startGrid
    | .inUse => (s.cellJudged j).settleAttempts

/-- CELL_END (R101, R105). -/
def execCellEnd (levels : List Level) (s : State) : Host.Outcome State Fault Refusal :=
  .next (s.cellEnds (judgeLevels levels))

end Sys2Proof.Machine
end

