-- ==== Sys2Proof/Machine/Link.lean ====
section
/-! DEFINITION. The transmitter and the start of cells: LINK_BUSY, READBACK_MISMATCH, ABORT_MARK_COMPLETE,
LAST_BIT_COMPARED and SLOT_START (R111 to R113, R120 to R123). -/

namespace Sys2Proof.Machine

/-- R123, R57, R101: the link becomes busy, the grid stops and the silence timer is held. -/
def State.linkBusy (s : State) : State :=
  { s with
    link := { s.link with busy := true }
    ladder := { s.ladder with grid := .stopped }
    membership := { s.membership with silence := if s.membership.silence == .running then .held else s.membership.silence } }

/-- LINK_BUSY (R123). -/
def execLinkBusy (s : State) : Host.Outcome State Fault Refusal := .next s.linkBusy

/-- The transmitter's report on its cell, with the state the transmitter takes. -/
def State.report (s : State) (tx : Transmitter) (r : Report) : State :=
  { s with link := { s.link with transmitter := tx, flight := s.link.flight.map fun f => { f with report := r } } }

/-- READBACK_MISMATCH (R113): the transmitter stops the cell and drives the abort mark. -/
def execReadbackMismatch (s : State) : Host.Outcome State Fault Refusal :=
  .next (if s.link.transmitter == .sending then s.report .marking .mismatched else s)

/-- ABORT_MARK_COMPLETE (R113): the transmitter stops driving and returns to IDLE. -/
def execAbortMarkComplete (s : State) : Host.Outcome State Fault Refusal :=
  .next (if s.link.transmitter == .marking then { s with link := { s.link with transmitter := .idle } } else s)

/-- LAST_BIT_COMPARED (R112): no mismatch to the last bit, and the transmitter returns to IDLE. -/
def execLastBitCompared (s : State) : Host.Outcome State Fault Refusal :=
  .next (if s.link.transmitter == .sending then s.report .idle .matched else s)

/-! ### Assembling a cell (R111) -/

/-- R35: the header frame of a control cell. -/
def State.controlFrame (s : State) (k : QueueKind) : Word :=
  match k with
  | .query => if s.membership.state == .syncing then s.frame.lastHeard else s.frame.number
  | .close f => f
  | .hello => s.frame.number
  | .claim _ => s.frame.number
  | .release _ => s.frame.number
  | .dump => s.frame.number
  | .bye => s.frame.number

/-- R67: the HELLO payload captured now. -/
def State.helloBody (s : State) : HelloBody :=
  ⟨BitVec.ofNat 16 (strapWidth s.strap.words), BitVec.ofNat 16 (strapHeight s.strap.words), BitVec.ofNat 8 s.rosterTimeout,
    tableDigest s.claims.table, stationBits s.present⟩

/-- R20: the CLAIM payload captured now from the slot's contents. -/
def State.claimBody (s : State) (n : SlotNo) : ClaimBody :=
  ⟨BitVec.ofNat 8 n.val, BitVec.ofNat 8 (s.slotAt n).format.code, (s.slotAt n).region⟩

/-- R90: the DUMP payload captured now. -/
def State.dumpBody (s : State) : DumpBody :=
  ⟨stationBits s.recovery.dumpPending.contains, s.claims.table,
    bitsWhere 32 fun i => (s.claims.table[i]?).any fun e => s.isOutstanding e.key, s.membership.roster⟩

/-- The payload of a control cell captured now (R111). -/
def State.controlPayload (s : State) (k : QueueKind) : List Byte :=
  match k with
  | .hello => s.helloBody.bytes
  | .claim n => (s.claimBody n).bytes
  | .release n => [BitVec.ofNat 8 n.val]
  | .dump => s.dumpBody.bytes
  | .close _ => []
  | .query => []
  | .bye => []

/-- R111: a control cell with its control sequence. -/
def State.controlCell (s : State) (k : QueueKind) (q : Byte) : Cell :=
  let p := s.controlPayload k
  ⟨⟨k.kind.code, s.own, s.controlFrame k, q, lengthField p.length, 0, 0⟩, p⟩

/-- R157: the TILE cell of a store entry. -/
def State.tileCell (s : State) (e : StoreEntry) : Cell :=
  let p := e.sort.payload
  ⟨⟨Kind.tile.code, s.own, e.frame, 0, lengthField p.length, if e.sort.isLast then 1 else 0, tileAux e.slot e.tileRow⟩, p⟩

/-- `f` on the first element that satisfies `p`. -/
def changeFirst {α : Type} (p : α → Bool) (f : α → α) : List α → List α
  | [] => []
  | a :: rest => if p a then f a :: rest else a :: changeFirst p f rest

/-- R70: the control sequence a queued cell is sent with: its given one, or one more than the own counter. -/
def State.sequenceFor (s : State) (c : QueuedCell) : Byte :=
  match c.given with
  | some q => q
  | none => s.membership.sequence + 1

/-- The crop origin that goes with a cell (R20): the slot's, for a CLAIM. -/
def State.cropFor (s : State) (k : QueueKind) : Crop :=
  match k with
  | .claim n => (s.slotAt n).crop
  | .hello => ⟨0, 0⟩
  | .release _ => ⟨0, 0⟩
  | .close _ => ⟨0, 0⟩
  | .query => ⟨0, 0⟩
  | .dump => ⟨0, 0⟩
  | .bye => ⟨0, 0⟩

/-- The transmitter leaves IDLE with this cell; its own start makes the link busy and stops the grid (R121, R123). -/
def State.drive (s : State) (c : Cell) (src : CellSource) (crop : Crop) : State :=
  { s with link := { s.link with transmitter := .sending, flight := some ⟨c, src, crop, .none⟩ } }.linkBusy

/-- R111, R70: transmission of a queued control cell starts: its number is given at the first attempt and its in-flight
mark is set. -/
def State.startControl (s : State) (c : QueuedCell) : State :=
  let q := s.sequenceFor c
  let queue := changeFirst (fun d => d.kind == c.kind) (fun d => { d with given := some q, inFlight := true }) s.queue
  let sequence := if c.given.isSome then s.membership.sequence else q
  { s with queue := queue, membership := { s.membership with sequence := sequence } }.drive
    (s.controlCell c.kind q) (.queue c.kind) (s.cropFor c.kind)

/-- R157: transmission of the first store entry starts. -/
def State.startTile (s : State) (e : StoreEntry) : State :=
  let store := { e with inFlight := true } :: s.store.drop 1
  { s with store := store }.drive (s.tileCell e) .store ⟨0, 0⟩

/-- R121: the turn is granted: the selected cell (R169, R170) is started. -/
def State.grantTurn (s : State) : State :=
  match s.selected with
  | none => s
  | some .store =>
    match s.store with
    | [] => s
    | e :: _ => s.startTile e
  | some (.queue k) =>
    match s.queue.find? fun c => c.kind == k with
    | none => s
    | some c => s.startControl c

/-- R118: slot j can be the next to begin on a grid whose last slot was `last`. -/
def laterSlot (last : Option Nat) (j : Nat) : Bool :=
  match last with
  | none => true
  | some i => i < j

/-- R121: slot j of the grid begins; at a slot of the station's rank a contending station starts if the link reads idle. -/
def State.slotBegins (s : State) (j : Nat) : State :=
  match s.ladder.grid with
  | .stopped => s
  | .running last =>
    if laterSlot last j && !s.link.busy then
      let t := { s with ladder := { s.ladder with grid := .running (some j) } }
      if j % 16 == s.ladder.rank.val then t.grantTurn else t
    else s

/-- SLOT_START (R121). -/
def execSlotStart (j : Nat) (s : State) : Host.Outcome State Fault Refusal := .next (s.slotBegins j)

end Sys2Proof.Machine
end

