-- ==== Sys2Proof/Machine/Reset.lean ====
section
/-! DEFINITION. Start-up (chapter 09): the three kinds of reset, the RESETn line, and the end of a strap attempt. -/

namespace Sys2Proof.Machine

/-- R172, R173: a reset. Every block takes its reset values; the level of the link, the model's own counter and the
waiting commands are not the station's to reset (log entry 2). -/
def State.resetAll (s : State) (cause : ResetCause) (count : Byte) (line : Bool) : State :=
  { State.reset with
    strap := { State.reset.strap with cause := cause, resetCount := count }
    link := { State.reset.link with busy := s.link.busy }
    resetLine := line
    free := s.free
    pending := s.pending }

/-- POWER_ON (R172, R173). -/
def execPowerOn (resetnAsserted : Bool) (s : State) : Host.Outcome State Fault Refusal :=
  .next (s.resetAll .power 0 resetnAsserted)

/-- RESETN_ASSERTED (R172): one assertion makes one reset; a second one while asserted does not arise (log entry 7). -/
def execResetnAsserted (s : State) : Host.Outcome State Fault Refusal :=
  .next (if s.resetLine then s else s.resetAll .line (satInc8 s.strap.resetCount) true)

/-- RESETN_RELEASED (R172): the strap load begins its first attempt, so a strap attempt can end from here on. -/
def execResetnReleased (s : State) : Host.Outcome State Fault Refusal := .next { s with resetLine := false }

/-- The local reset of a RESET request (R200, R173). -/
def State.localReset (s : State) : State := s.resetAll .localPort (satInc8 s.strap.resetCount) s.resetLine

/-- Whether a strap load is in progress (R172, R183). -/
def State.loading (s : State) : Bool := s.membership.state == .strap && !s.resetLine

/-- R101, R118, R182: the receiver is taken into use when the station leaves STRAP; with the link busy it waits for
idle, and otherwise the grid starts at once. -/
def State.takeIntoUse (s : State) : State :=
  if s.link.busy then { s with link := { s.link with receiver := .awaitingIdle } }
  else { s with link := { s.link with receiver := .inUse } }.startGrid

/-- R181: slot n loaded from its record. -/
def loadSlot (s : State) (n : SlotNo) : State :=
  let w := s.strap.words
  let f := Format.ofBits (recordWord w n 0).toNat
  let r := recordRegion w n
  let c : Crop := ⟨recordWord w n 5, recordWord w n 6⟩
  let passes := localChecks w n f r c
  let t := s.setSlot n ⟨f, r, c, .off, recordEnabled w n && passes, false⟩
  if recordEnabled w n && !passes then t.deposit (.slot n .off .invalid) else t

/-- R182: a passing attempt moves the station from STRAP to LISTEN. -/
def State.enterListen (s : State) (words : List Word) : State :=
  let t := { s with strap := { s.strap with words := words } }
  let t := t.forSlots loadSlot
  let t := (t.setState .listen).deposit (.state .listen .start)
  t.startSilence.takeIntoUse

/-- R178, R179: a failed attempt; the second one of a load ends in MUTED(STRAP). -/
def State.strapFailed (s : State) (d : StrapDetail) : State :=
  let t := { s with strap := { s.strap with failed := s.strap.failed + 1, detail := d } }
  if 2 ≤ t.strap.failed then (t.enterMuted .strap .strap).takeIntoUse else t

/-- STRAP_ATTEMPT_END (R175 to R182); none ends while no load is in progress (log entry 7). -/
def execStrapAttemptEnd (read : StrapRead) (s : State) : Host.Outcome State Fault Refusal :=
  .next (if s.loading then
      let t := { s with strap := { s.strap with signals := strapSignals read } }
      match judgeRead read with
      | .inl d => t.strapFailed d
      | .inr words => t.enterListen words
    else s)

end Sys2Proof.Machine
end

