-- ==== Sys2Proof/Machine/Port.lean ====
section
/-! DEFINITION. The local port (chapter 10): select windows, the reply buffer and the eleven requests. -/

namespace Sys2Proof.Machine

/-! ### Windows and the reply buffer (R184 to R188) -/

def State.setReply (s : State) (r : Option Reply) : State := { s with port := { s.port with reply := r } }

def State.setLdo (s : State) (bytes : List Byte) : State := { s with port := { s.port with ldo := bytes } }

/-- The bytes a read window shifts out (R185, R186, R208): the whole reply, then 0x00. -/
def readLdo (reply : Option Reply) (n : Nat) : List Byte :=
  match reply with
  | none => List.replicate n 0
  | some r => (r.bytes ++ List.replicate n 0).take n

/-- The bytes a request window shifts out (R185): the first byte of the waiting reply, or 0x00, then 0x00. -/
def requestLdo (reply : Option Reply) (n : Nat) : List Byte :=
  match reply with
  | none => List.replicate n 0
  | some r => (r.bytes.take 1 ++ List.replicate n 0).take n

/-- R186: a read window of n bytes; the buffer becomes EMPTY when every byte of the reply was clocked out. While RESETn
is asserted it has no effect and LDO carries 0x00 (R205). A window of no byte has no effect at all (R184). -/
def State.readWindow (s : State) (n : Nat) : State :=
  if n = 0 then s
  else if s.resetLine then s.setLdo (List.replicate n 0)
  else
    let t := s.setLdo (readLdo s.port.reply n)
    match s.port.reply with
    | none => t
    | some r => if r.bytes.length ≤ n then t.setReply none else t

/-- READ_WINDOW (R186). -/
def execReadWindow (n : Nat) (s : State) : Host.Outcome State Fault Refusal := .next (s.readWindow n)

/-- A reply with its mark clear is written into the buffer (R186). -/
def State.replyWith (s : State) (st : Status) (body : List Byte) : State := s.setReply (some ⟨st, body, false⟩)

/-- R188: a request that finds a reply waiting is lost, and the OVERRUN mark is set. -/
def State.overrun (s : State) : State := s.setReply (s.port.reply.map fun r => { r with overrun := true })

/-! ### What each request does, past its judgements (R192 to R200) -/

/-- R192, section 11.5: the STATUS body. -/
def State.statusBody (s : State) : List Byte :=
  [s.membership.state.code, s.membership.state.muteCode, BitVec.ofNat 8 s.own.val] ++ wordBytes s.frame.number ++
    [match s.link.lastSender with
      | some i => BitVec.ofNat 8 i.val
      | none => 0xFF,
     BitVec.ofNat 8 s.claims.table.length, BitVec.ofNat 8 s.store.length] ++
    wordBytes (BitVec.ofNat 16 (storeBytes s.store % 65536)) ++ wordBytes (BitVec.ofNat 16 (storeBytes s.store / 65536)) ++
    [BitVec.ofNat 8 s.queue.length, (s.slotAt 0).statusByte, (s.slotAt 1).statusByte, (s.slotAt 2).statusByte,
     (s.slotAt 3).statusByte, BitVec.ofNat 8 s.recovery.attempts, BitVec.ofNat 8 s.strap.failed, s.strap.detail.code,
     s.strap.cause.code, s.strap.resetCount, BitVec.ofNat 8 s.port.notices.length, s.port.noticesLost]

def State.runStatus (s : State) : State := s.replyWith .done s.statusBody

/-- R193: the TABLE body. -/
def State.tableBody (s : State) : List Byte :=
  BitVec.ofNat 8 s.claims.table.length :: s.claims.table.flatMap fun e => e.record (s.isOutstanding e.key)

def State.runTable (s : State) : State := s.replyWith .done s.tableBody

def State.runRoster (s : State) : State := s.replyWith .done (rosterBytes s.membership.roster)

/-- R195: the reply shows the values before the clear. -/
def State.runCounters (s : State) (body : List Byte) : State :=
  let t := s.replyWith .done (s.port.counters.bytes ++ [s.port.noticesLost])
  if body.getD 0 0 == 1 then { t with port := { t.port with counters := Counters.zero, noticesLost := 0 } } else t

/-- R196: the oldest notice leaves the queue and becomes the body. -/
def State.runNotice (s : State) : State :=
  match s.port.notices with
  | [] => s.replyWith .done []
  | n :: rest => { s with port := { s.port with notices := rest } }.replyWith .done n.bytes

/-- Whether slot n's CLAIM is on the link (R27). -/
def State.claimInFlight (s : State) (n : SlotNo) : Bool := s.queue.any fun c => c.kind == .claim n && c.inFlight

/-- R27: SLOT-OFF by the slot's state. -/
def State.slotOff (s : State) (n : SlotNo) : State :=
  let sl := s.slotAt n
  match sl.state with
  | .off => s.setSlot n { sl with startOn := false }
  | .wanted => s.setSlotState n .off
  | .waiting _ => s.setSlotState n .off
  | .proposed =>
    if s.claimInFlight n then s.setSlot n { sl with offAfter := true }
    else ((s.withdraw fun k => k == .claim n).setSlot n { sl with state := .off, offAfter := false }).settleAttempts
  | .active =>
    let t := s.setSlotState n .dropping
    if t.isMember then t.enqueue (.release n) else t
  | .dropping => s

def State.runSlotOff (s : State) (body : List Byte) : State := (s.slotOff (slotOfBody body)).replyWith .done []

/-- R28: SLOT-ON. -/
def State.runSlotOn (s : State) (body : List Byte) : State :=
  let n := slotOfBody body
  let sl := s.slotAt n
  if sl.state != .off then s.replyWith .refusedState []
  else if localChecks s.strap.words n sl.format sl.region sl.crop then
    ((s.setSlot n { sl with state := .wanted, startOn := false }).claimIfReady n).replyWith .done []
  else s.replyWith .refusedArg []

/-- R29, R197: SLOT-SET. -/
def State.runSlotSet (s : State) (body : List Byte) : State :=
  let n := slotOfBody body
  let sl := s.slotAt n
  if sl.state != .off then s.replyWith .refusedState []
  else (s.setSlot n { sl with format := setFormat body, region := regionAt body 2, crop := setCrop body }).replyWith .done []

/-- R72, R198: LEAVE. -/
def State.runLeave (s : State) : State := (s.enqueue .bye).replyWith .done []

/-- R75, R199: REJOIN. -/
def State.runRejoin (s : State) : State :=
  (((s.clearPlan.setState .listen).startSilence).deposit (.state .listen .rejoin)).replyWith .done []

/-! ### Judging a request (R188, R189, R190) -/

/-- R190: the station states that allow a request code. -/
def stateAllows (st : StationState) (code : Nat) : Bool :=
  match code with
  | 6 => slotsAllowed st
  | 7 => slotsAllowed st
  | 8 => slotsAllowed st
  | 9 => st == .member
  | 10 => st == .left
  | _ => true
where
  /-- The states that take slot requests. -/
  slotsAllowed (st : StationState) : Bool := st == .listen || st == .syncing || st == .member || st == .suspect

/-- R189, judgement 4: slot requests and LEAVE are refused while a BYE is queued or being transmitted (R197, R198). -/
def State.byeForbids (s : State) (code : Nat) : Bool := 6 ≤ code && code ≤ 9 && s.byeQueued

/-- R189, judgement 5: the clear flag is 0 or 1, the slot number 0..3. -/
def argsInRange (code : Nat) (body : List Byte) : Bool :=
  match code with
  | 4 => (body.getD 0 0).toNat ≤ 1
  | 6 => bodySlot body ≤ 3
  | 7 => bodySlot body ≤ 3
  | 8 => bodySlot body ≤ 3
  | _ => true

/-- R189, judgements 2 to 6, for a code 1..11 and an empty buffer; `run` is the request's own rule. -/
def State.judgeRequest (s : State) (code : Nat) (body : List Byte) (run : State → State) : State :=
  if body.length != bodyLength code then s.replyWith .refusedArg []
  else if !stateAllows s.membership.state code then s.replyWith .refusedState []
  else if s.byeForbids code then s.replyWith .refusedState []
  else if !argsInRange code body then s.replyWith .refusedArg []
  else run s

/-- A whole request frame of a code 1..10: without effect while RESETn is asserted (R205), lost to an overrun while a
reply waits (R188), and judged otherwise. The window shifted out `requestLdo` (R185). -/
def State.request (s : State) (code : Nat) (body : List Byte) (run : State → State) : State :=
  let n := body.length + 3
  if s.resetLine then s.setLdo (List.replicate n 0)
  else
    let t := s.setLdo (requestLdo s.port.reply n)
    if s.port.reply.isSome then t.overrun else t.judgeRequest code body run

/-- R200, R188: a whole RESET frame; with an empty body it resets even while a reply waits. -/
def State.resetRequest (s : State) (body : List Byte) : State :=
  let n := body.length + 3
  if s.resetLine then s.setLdo (List.replicate n 0)
  else
    let ldo := requestLdo s.port.reply n
    if body = [] then s.localReset.setLdo ldo
    else if s.port.reply.isSome then (s.setLdo ldo).overrun
    else (s.setLdo ldo).replyWith .refusedArg []

/-- A whole frame of a known code, by its code. -/
def State.requestByCode (s : State) (code : Nat) (body : List Byte) : Option State :=
  match code with
  | 1 => some (s.request 1 body State.runStatus)
  | 2 => some (s.request 2 body State.runTable)
  | 3 => some (s.request 3 body State.runRoster)
  | 4 => some (s.request 4 body fun t => t.runCounters body)
  | 5 => some (s.request 5 body State.runNotice)
  | 6 => some (s.request 6 body fun t => t.runSlotOff body)
  | 7 => some (s.request 7 body fun t => t.runSlotOn body)
  | 8 => some (s.request 8 body fun t => t.runSlotSet body)
  | 9 => some (s.request 9 body State.runLeave)
  | 10 => some (s.request 10 body State.runRejoin)
  | 11 => some (s.resetRequest body)
  | _ => none

/-- R187 to R189: a request window whose frame fails the check, or is whole with an unknown code. -/
def State.refusedWindow (s : State) (n : Nat) (why : Status) : State :=
  if s.resetLine then s.setLdo (List.replicate n 0)
  else
    let t := s.setLdo (requestLdo s.port.reply n)
    if s.port.reply.isSome then t.overrun else t.replyWith why []

/-- A select window's bytes at its end (R184, R185, R187). -/
def State.window (s : State) (bytes : List Byte) : State :=
  match bytes with
  | [] => s
  | first :: _ =>
    if first == 0 then s.readWindow bytes.length
    else if frameWhole bytes then
      (s.requestByCode first.toNat (frameBody bytes)).getD (s.refusedWindow bytes.length .refusedCode)
    else s.refusedWindow bytes.length .refusedCheck

/-- REQUEST_WINDOW (R187, R188, R189). Bytes that another row stands for are judged as that row's (log entry 10). -/
def execRequestWindow (bytes : List Byte) (s : State) : Host.Outcome State Fault Refusal := .next (s.window bytes)

/-- STATUS (R192). -/
def execStatus (body : List Byte) (s : State) : Host.Outcome State Fault Refusal := .next (s.request 1 body State.runStatus)

/-- TABLE (R193). -/
def execTable (body : List Byte) (s : State) : Host.Outcome State Fault Refusal := .next (s.request 2 body State.runTable)

/-- ROSTER (R194). -/
def execRoster (body : List Byte) (s : State) : Host.Outcome State Fault Refusal := .next (s.request 3 body State.runRoster)

/-- COUNTERS (R195). -/
def execCounters (body : List Byte) (s : State) : Host.Outcome State Fault Refusal :=
  .next (s.request 4 body fun t => t.runCounters body)

/-- NOTICE (R196). -/
def execNotice (body : List Byte) (s : State) : Host.Outcome State Fault Refusal := .next (s.request 5 body State.runNotice)

/-- SLOT_OFF (R27, R197). -/
def execSlotOff (body : List Byte) (s : State) : Host.Outcome State Fault Refusal :=
  .next (s.request 6 body fun t => t.runSlotOff body)

/-- SLOT_ON (R28, R197). -/
def execSlotOn (body : List Byte) (s : State) : Host.Outcome State Fault Refusal :=
  .next (s.request 7 body fun t => t.runSlotOn body)

/-- SLOT_SET (R29, R197). -/
def execSlotSet (body : List Byte) (s : State) : Host.Outcome State Fault Refusal :=
  .next (s.request 8 body fun t => t.runSlotSet body)

/-- LEAVE (R198). -/
def execLeave (body : List Byte) (s : State) : Host.Outcome State Fault Refusal := .next (s.request 9 body State.runLeave)

/-- REJOIN (R75, R199). -/
def execRejoin (body : List Byte) (s : State) : Host.Outcome State Fault Refusal := .next (s.request 10 body State.runRejoin)

/-- RESET (R200). -/
def execReset (body : List Byte) (s : State) : Host.Outcome State Fault Refusal := .next (s.resetRequest body)

end Sys2Proof.Machine
end

