-- ==== Sys2Proof/Machine/Sensor.lean ====
section
/-! DEFINITION. The sensor port's three events (R132 to R145). -/

namespace Sys2Proof.Machine

/-- R132: the sensor port is in use in every station state past STRAP. -/
def State.sensorInUse (s : State) : Bool := s.membership.state != .strap

/-- R141, R142, R154: the tile row of an end marker, rows − 1. -/
def lastTileRow (rows : Nat) : Nat := if rows = 0 then Config.emptyTileLastRow else rows - 1

/-- R143: a LAST-flagged entry with a missing count joins the store, the rows-missing counter is increased by the count,
and the context is DONE for its frame (R141, R142). -/
def State.endTile (s : State) (n : SlotNo) (f : Word) (row : Nat) (sort : StoreSort) (missing : Nat) : State :=
  ((s.append ⟨n, f, row, sort, false⟩).count fun c => { c with rowsMissing := satAdd c.rowsMissing missing }).setContext n
    (.done f)

/-- R142: the missing count of a tile ended early: the rows not yet reached plus the rows already missed. -/
def earlyMissing (rows next missing : Nat) : Nat :=
  if next ≤ rows then rows - next + missing else Config.missingPastEnd rows next missing

/-- R142: slot n's tile ends early, when its context is CAPTURING. -/
def endEarly (s : State) (n : SlotNo) : State :=
  match s.contextAt n, s.ownEntry n with
  | .capturing f next missing, some e =>
    let m := earlyMissing e.region.rows.toNat next missing
    s.endTile n f (lastTileRow e.region.rows.toNat) (.endMarker m) m
  | _, _ => s

/-- R137: an ARMED context becomes CAPTURING with next tile row 0 and missing count 0. -/
def beginCapture (s : State) (n : SlotNo) : State :=
  match s.contextAt n with
  | .armed f => s.setContext n (.capturing f 0 0)
  | .idle => s
  | .capturing _ _ _ => s
  | .done _ => s

/-- R133, R137: a sensor frame start, past the end part of a restart. -/
def State.frameStarts (s : State) : State :=
  { s with capture := { s.capture with inFrame := true, rowCounter := 0 } }.forSlots beginCapture

/-- R142: a sensor frame end's effect on the contexts and the flag. -/
def State.frameEnds (s : State) : State :=
  { s with capture := { s.capture with inFrame := false } }.forSlots endEarly

/-- SENSOR_FRAME_START (R132, R133, R137): while in frame it is a restart, an end and a start in one event. -/
def execSensorFrameStart (s : State) : Host.Outcome State Fault Refusal :=
  .next (if s.sensorInUse then (if s.capture.inFrame then s.frameEnds else s).frameStarts else s)

/-- SENSOR_FRAME_END (R132, R142). -/
def execSensorFrameEnd (s : State) : Host.Outcome State Fault Refusal :=
  .next (if s.sensorInUse && s.capture.inFrame then s.frameEnds else s)

/-- R140: lines-dropped counts a refused row. -/
def State.dropLine (s : State) : State := s.count fun c => { c with linesDropped := satAdd c.linesDropped 1 }

/-- R138 to R141: slot n's context handles its selected line: `row` is the packed row, `none` when the line is short. -/
def State.handleRow (s : State) (n : SlotNo) (f : Word) (next missing rows : Nat) (row : Option (List Byte)) : State :=
  let isLast := next + 1 = rows
  let missed (t : State) : State :=
    if isLast then t.endTile n f (lastTileRow rows) (.endMarker (missing + 1)) (missing + 1)
    else t.setContext n (.capturing f (next + 1) (missing + 1))
  match row with
  | none => missed s
  | some packed =>
    if storeTakes s.store packed.length then
      if isLast then s.endTile n f next (.lastRow missing packed) missing
      else (s.append ⟨n, f, next, .row packed, false⟩).setContext n (.capturing f (next + 1) missing)
    else missed s.dropLine

/-- R138, R139: the packed row that a line gives an entry, `none` when the line is shorter than crop x + cols. -/
def lineRow (pixels : List Pixel) (e : Entry) (crop : Crop) : Option (List Byte) :=
  let cols := e.region.cols.toNat
  if crop.x.toNat + cols ≤ pixels.length then some (packRow e.format ((pixels.drop crop.x.toNat).take cols)) else none

/-- R138: slot n's context takes the sensor line of this sensor row, when it is CAPTURING and selects it. -/
def takeLine (row : Nat) (pixels : List Pixel) (s : State) (n : SlotNo) : State :=
  match s.contextAt n, s.ownEntry n with
  | .capturing f next missing, some e =>
    match e.localPart with
    | none => s
    | some l =>
      if row = l.crop.y.toNat + next then
        s.handleRow n f next missing e.region.rows.toNat (lineRow pixels e l.crop)
      else s
  | _, _ => s

/-- SENSOR_LINE (R132, R133, R138, R144): out of frame, or past the 4096th row, no context selects the line. -/
def execSensorLine (line : List (BitVec 24)) (s : State) : Host.Outcome State Fault Refusal :=
  .next (if s.sensorInUse && s.capture.inFrame && decide (s.capture.rowCounter < 4096) then
      let row := s.capture.rowCounter
      let pixels := sensorPixels (strapSensor s.strap.words) line
      { s with capture := { s.capture with rowCounter := row + 1 } }.forSlots (takeLine row pixels)
    else s)

end Sys2Proof.Machine
end

