-- ==== Sys2Proof/Machine/Timers.lean ====
section
/-! DEFINITION. The three timer expiries (R46, R47, R59, R89). An expiry of a timer that is not running does not arise
and changes nothing (log entry 7). -/

namespace Sys2Proof.Machine

/-- R59: founding. The STATE notice comes first, then the START notices of the slots. -/
def State.found (s : State) : State :=
  let t := { s with
    membership := { s.membership with state := .member, silence := .stopped }
    frame := { s.frame with timerRunning := true } }
  (t.deposit (.state .member .founded)).memberCells

/-- SILENCE_TIMER_EXPIRY (R59): in LISTEN, a running timer's expiry founds a group. -/
def execSilenceTimerExpiry (s : State) : Host.Outcome State Fault Refusal :=
  .next (if s.membership.state == .listen && s.membership.silence == .running then s.found else s)

/-- FRAME_TIMER_EXPIRY (R46, R47): the timer stops; at a MEMBER a CLOSE for the current frame is queued unless one is
queued or in flight. -/
def execFrameTimerExpiry (s : State) : Host.Outcome State Fault Refusal :=
  .next (if s.frame.timerRunning then
      let t := s.setFrameTimer false
      if t.isMember then t.enqueue (.close t.frame.number) else t
    else s)

/-- R89: the query timer expired; the station state and the attempt count decide. -/
def State.queryExpired (s : State) : State :=
  let t := s.setQueryTimer false
  if s.recovery.attempts < 3 then
    { t with recovery := { t.recovery with attempts := t.recovery.attempts + 1 } }.enqueue .query
  else
    match s.membership.state with
    | .suspect => t.selfTrust
    | .syncing => t.syncingFallback
    | .strap => t
    | .listen => t
    | .member => t
    | .left => t
    | .muted _ => t

/-- QUERY_TIMER_EXPIRY (R89). -/
def execQueryTimerExpiry (s : State) : Host.Outcome State Fault Refusal :=
  .next (if s.recovery.timerRunning then s.queryExpired.settleAttempts else s)

end Sys2Proof.Machine
end

