-- ==== Sys2Proof/Machine/Dispatch.lean ====
section
/-! DEFINITION. One arm per command: the effect on everything but the queue of waiting commands. -/

namespace Sys2Proof.Machine

def exec (i : Instr) (s : State) : Host.Outcome State Fault Refusal :=
  match i with
  | .powerOn resetnAsserted => Sys2Proof.Machine.execPowerOn resetnAsserted s
  | .resetnAsserted => Sys2Proof.Machine.execResetnAsserted s
  | .resetnReleased => Sys2Proof.Machine.execResetnReleased s
  | .strapAttemptEnd read => Sys2Proof.Machine.execStrapAttemptEnd read s
  | .linkBusy => Sys2Proof.Machine.execLinkBusy s
  | .readbackMismatch => Sys2Proof.Machine.execReadbackMismatch s
  | .abortMarkComplete => Sys2Proof.Machine.execAbortMarkComplete s
  | .lastBitCompared => Sys2Proof.Machine.execLastBitCompared s
  | .cellEnd levels => Sys2Proof.Machine.execCellEnd levels s
  | .slotStart index => Sys2Proof.Machine.execSlotStart index s
  | .silenceTimerExpiry => Sys2Proof.Machine.execSilenceTimerExpiry s
  | .frameTimerExpiry => Sys2Proof.Machine.execFrameTimerExpiry s
  | .queryTimerExpiry => Sys2Proof.Machine.execQueryTimerExpiry s
  | .sensorFrameStart => Sys2Proof.Machine.execSensorFrameStart s
  | .sensorLine pixels => Sys2Proof.Machine.execSensorLine pixels s
  | .sensorFrameEnd => Sys2Proof.Machine.execSensorFrameEnd s
  | .readWindow bytes => Sys2Proof.Machine.execReadWindow bytes s
  | .requestWindow bytes => Sys2Proof.Machine.execRequestWindow bytes s
  | .status body => Sys2Proof.Machine.execStatus body s
  | .table body => Sys2Proof.Machine.execTable body s
  | .roster body => Sys2Proof.Machine.execRoster body s
  | .counters body => Sys2Proof.Machine.execCounters body s
  | .notice body => Sys2Proof.Machine.execNotice body s
  | .slotOff body => Sys2Proof.Machine.execSlotOff body s
  | .slotOn body => Sys2Proof.Machine.execSlotOn body s
  | .slotSet body => Sys2Proof.Machine.execSlotSet body s
  | .leave body => Sys2Proof.Machine.execLeave body s
  | .rejoin body => Sys2Proof.Machine.execRejoin body s
  | .reset body => Sys2Proof.Machine.execReset body s

end Sys2Proof.Machine
end

