-- ==== Sys2Proof/Safety.lean ====
section
/-! DEFINITION. What a sound station state is: the limits and laws the spec states over every state, as decidable
predicates that claims are stated in. -/

namespace Sys2Proof.Machine

/-- R201: at most eight notices wait. -/
def State.noticesBounded (s : State) : Bool := s.port.notices.length ≤ 8

/-- R4, R10: at most 32 claim table entries. -/
def State.tableBounded (s : State) : Bool := s.claims.table.length ≤ 32

/-- R155: at most 60 row entries and LAST rows, and at most 65,536 packed bytes. -/
def State.storeBounded (s : State) : Bool := storeRows s.store ≤ 60 && storeBytes s.store ≤ 65536

/-- R162: the queue holds no two cells of one of its nine places. -/
def State.queuePlaces (s : State) : Bool := (s.queue.map fun c => c.kind.place).Nodup

/-- R133: the sensor row counter holds 0..4096. -/
def State.rowsCounted (s : State) : Bool := s.capture.rowCounter ≤ 4096

/-- R61, R63: an ABSENT roster entry has age 0 and its flag clear; a PRESENT one has an age below `timeout`. -/
def rosterEntryLawful (timeout : Nat) (e : RosterEntry) : Bool :=
  if e.present then e.age < timeout else e.age == 0 && !e.heard

/-- R61, R63: every roster entry is lawful against the station's own roster timeout. -/
def State.rosterLawful (s : State) : Bool := stationOrder.all fun i => rosterEntryLawful s.rosterTimeout (s.rosterAt i)

/-- The station has passed its strap load (R182): not STRAP and not MUTED(STRAP). -/
def State.started (s : State) : Bool :=
  s.membership.state != .strap && s.membership.state != .muted .strap

/-- R176, R180: a started station runs on an image that passed its judgement. -/
def State.strapValid (s : State) : Bool := !s.started || judgeImage s.strap.words == none

/-- A station that sends nothing in any of its cells (R55): STRAP, LISTEN, LEFT, MUTED. -/
def StationState.silent : StationState → Bool
  | .strap => true
  | .listen => true
  | .left => true
  | .muted _ => true
  | .syncing => false
  | .member => false
  | .suspect => false

/-- R132, R160, R167, R168: in STRAP, LISTEN, LEFT and MUTED the queue and the store are empty, every context is IDLE, no
own cell is on the link and the transmitter is IDLE. -/
def State.silentEmpty (s : State) : Bool :=
  !s.membership.state.silent ||
    (s.queue.isEmpty && s.store.isEmpty && slotOrder.all (fun n => s.contextAt n == .idle) && s.link.flight == none &&
      s.link.transmitter == .idle)

/-- A station whose contexts can work (R132, R148): MEMBER or SUSPECT. -/
def StationState.inPlan : StationState → Bool
  | .member => true
  | .suspect => true
  | .strap => false
  | .listen => false
  | .syncing => false
  | .left => false
  | .muted _ => false

/-- The states in which a cell of the station can be on the link (R108): SYNCING, MEMBER and SUSPECT. -/
def StationState.sends (st : StationState) : Bool := !st.silent

/-- R117, R118, R123: the grid runs only at a receiver in use and while the link is idle. -/
def State.gridLawful (s : State) : Bool :=
  s.ladder.grid == .stopped || (s.link.receiver == .inUse && !s.link.busy)

/-- R111 to R113: what the transmitter has reported of the own cell on the link. -/
def reportLawful (tx : Transmitter) (r : Report) : Bool :=
  match tx with
  | .sending => r == .none
  | .marking => r == .mismatched
  | .idle => r != .none

/-- R157: a TILE on the link is the cell of the first store entry `e`: its kind, sender, frame, LAST and slot. -/
def State.sentFrom (s : State) (c : Cell) (e : StoreEntry) : Bool :=
  c.header.kind == Kind.tile.code && c.header.sender == s.own && c.header.frame == e.frame &&
    c.header.last == e.sort.isLast && c.header.tileSlot == e.slot

/-- R111, R161, R164, R166: with no own cell on the link the transmitter is IDLE and no in-flight mark is set. With one,
the link is busy, the receiver in use and the station in a state that sends, the cell is of its source's kind, and the
one in-flight mark is that of its source: a queued cell, or the first store entry. -/
def State.flightLawful (s : State) : Bool :=
  match s.link.flight with
  | none => s.link.transmitter == .idle && s.queue.all (fun c => !c.inFlight) && s.store.all fun e => !e.inFlight
  | some f =>
    s.link.busy && s.link.receiver == .inUse && s.membership.state.sends && reportLawful s.link.transmitter f.report &&
    match f.source with
    | .queue k =>
      f.cell.header.kind == k.kind.code && f.cell.header.sender == s.own && s.queue.any (fun c => c.kind == k && c.inFlight) &&
        s.queue.all (fun c => !c.inFlight || c.kind == k) && s.store.all fun e => !e.inFlight
    | .store =>
      s.queue.all (fun c => !c.inFlight) &&
      match s.store with
      | [] => false
      | e :: rest => e.inFlight && rest.all (fun e => !e.inFlight) && s.sentFrom f.cell e

/-- R132, R135, R155: outside MEMBER and SUSPECT every context is IDLE and the store empty; a context that is not IDLE
and every store entry hold the station's current frame. -/
def State.framesAgree (s : State) : Bool :=
  (s.membership.state.inPlan ||
    (s.store.isEmpty && slotOrder.all fun n => s.contextAt n == .idle)) &&
  (slotOrder.all fun n => match (s.contextAt n).frame? with
    | none => true
    | some f => f == s.frame.number) &&
  s.store.all fun e => e.frame == s.frame.number

/-- A context at work on its tile (R137, R138). -/
def Context.atWork : Context → Bool
  | .armed _ => true
  | .capturing _ _ _ => true
  | .idle => false
  | .done _ => false

/-- A context whose tile has ended in its frame (R141, R142). -/
def Context.isDone : Context → Bool
  | .done _ => true
  | .idle => false
  | .armed _ => false
  | .capturing _ _ _ => false

/-- R158: no entry of a tile stands behind the tile's LAST-flagged entry. -/
def lastEntriesLast : List StoreEntry → Bool
  | [] => true
  | e :: rest => (!e.sort.isLast || rest.all fun x => !(x.slot == e.slot)) && lastEntriesLast rest

/-- R136, R141, R143, R147, R158: the tile of every store entry and of every context at work is outstanding; a tile
whose LAST-flagged entry waits in the store has its context DONE, and no entry of it stands behind that one. -/
def State.tilesLawful (s : State) : Bool :=
  s.store.all (fun e => s.isOutstanding (s.ownKey e.slot)) &&
  slotOrder.all (fun n => !(s.contextAt n).atWork || s.isOutstanding (s.ownKey n)) &&
  s.store.all (fun e => !e.sort.isLast || (s.contextAt e.slot).isDone) &&
  lastEntriesLast s.store

/-- R172, R179: in STRAP and MUTED(STRAP) the working copy is all zero, the plan empty and every slot as a reset leaves it. -/
def State.unloadedBlank (s : State) : Bool :=
  s.started ||
    (s.strap.words == List.replicate 36 0 && s.claims == State.reset.claims && s.frame == State.reset.frame &&
      s.membership.roster == State.reset.membership.roster && s.membership.sequence == 0 && s.recovery == State.reset.recovery)

/-- R33, R78: the timers that run in each state: the frame timer in MEMBER and SUSPECT, the query timer in SYNCING and
SUSPECT, the silence timer in LISTEN. -/
def State.timersLawful (s : State) : Bool :=
  (!s.frame.timerRunning || s.membership.state == .member || s.membership.state == .suspect) &&
  (!s.recovery.timerRunning || s.membership.state == .syncing || s.membership.state == .suspect) &&
  (s.membership.silence == .stopped || s.membership.state == .listen)

/-- R167: in SYNCING and SUSPECT the queue holds no cell other than a QUERY and a BYE. -/
def State.suspectQueue (s : State) : Bool :=
  !(s.membership.state == .syncing || s.membership.state == .suspect) ||
    s.queue.all fun c => c.kind == .query || c.kind == .bye

/-- R165, R87, R89: only a QUERY holds a given number, and none is queued while the query timer runs. -/
def State.queryMayHold (s : State) : Bool :=
  s.queue.all (fun c => c.given.isNone || c.kind == .query) &&
    (!s.recovery.timerRunning || s.queue.all fun c => c.kind != .query)

/-- R165: the queued cells that may hold a given number. In MEMBER it is the first one, and no QUERY is queued; in SYNCING
and SUSPECT it is a QUERY. -/
def State.givenLawful (s : State) : Bool :=
  match s.membership.state with
  | .member => (s.queue.drop 1).all (fun c => c.given.isNone) && s.queue.all fun c => c.kind != .query
  | .syncing => s.queryMayHold
  | .suspect => s.queryMayHold
  | .strap => true
  | .listen => true
  | .left => true
  | .muted _ => true

/-- R26: a slot's state against its own entry's state: an entry that is not RELEASING in ACTIVE, any entry in DROPPING,
none in the other states. -/
def slotAgrees (st : SlotState) (e : Option EntryState) : Bool :=
  match st with
  | .active => e == some .pending || e == some .held
  | .dropping => e.isSome
  | .off => e.isNone
  | .wanted => e.isNone
  | .proposed => e.isNone
  | .waiting _ => e.isNone

/-- R20, R25: what a queued cell says of its slot: a CLAIM's is PROPOSED, a RELEASE's is DROPPING with an entry that is
not RELEASING yet. -/
def State.cellAgrees (s : State) (k : QueueKind) : Bool :=
  match k with
  | .claim n => (s.slotAt n).state == .proposed
  | .release n => (s.slotAt n).state == .dropping && (s.ownEntry n).any fun e => e.state != .releasing
  | .hello => true
  | .close _ => true
  | .query => true
  | .dump => true
  | .bye => true

/-- R20, R25, R111: the payload of a CLAIM or RELEASE on the link names the slot that its queued cell is for. -/
def Flight.namesItsSlot (f : Flight) : Bool :=
  match f.source with
  | .queue (.claim n) => (claimOf f.cell.payload).slot.toNat == n.val
  | .queue (.release n) => (f.cell.payload.getD 0 0).toNat == n.val
  | .queue _ => true
  | .store => true

/-- R4, R26: the keys of the table are distinct, and the slots, the own entries, and the CLAIMs and RELEASEs agree. -/
def State.planAgrees (s : State) : Bool :=
  (s.claims.table.map Entry.key).Nodup &&
    slotOrder.all (fun n => slotAgrees (s.slotAt n).state ((s.ownEntry n).map Entry.state)) &&
    s.queue.all (fun c => s.cellAgrees c.kind) && s.link.flight.all Flight.namesItsSlot

/-- R1, R17: no entry, and every slot OFF or WANTED. -/
def State.planAbsent (s : State) : Bool :=
  s.claims.table.isEmpty && slotOrder.all fun n => (s.slotAt n).state == .off || (s.slotAt n).state == .wanted

/-- R26: in MEMBER and SUSPECT the plan agrees; in STRAP, LISTEN, SYNCING and LEFT there is none. -/
def State.slotsLawful (s : State) : Bool :=
  match s.membership.state with
  | .member => s.planAgrees
  | .suspect => s.planAgrees
  | .strap => s.planAbsent
  | .listen => s.planAbsent
  | .syncing => s.planAbsent
  | .left => s.planAbsent
  | .muted _ => true
/-- R4: a DUMP that the front command's cell, or the own cell on the link, carries holds no key twice. A station that
keeps its own table by R7 sends no other. -/
def State.dumpsHoldDistinctKeys (s : State) : Bool :=
  let distinct (c : Cell) : Bool :=
    Kind.ofCode c.header.kind != some .dump || (dumpOf c.payload).all fun d => (d.entries.map Entry.key).Nodup
  (match s.pending with
    | .cellEnd levels :: _ => (match (judgeLevels levels).cls with
      | .heard c => distinct c
      | .headerHeard _ => true
      | .damaged => true)
    | _ => true) &&
  s.link.flight.all fun f => distinct f.cell

/-- R78: the query attempt count is at most 3, and the dump-pending set is filled only in MEMBER. -/
def State.recoveryLawful (s : State) : Bool :=
  s.recovery.attempts ≤ 3 && (s.membership.state == .member || s.recovery.dumpPending.isEmpty)

/-- R117, R129: the ladder's attempt count is at most 4, and 4 only in MUTED. -/
def State.attemptsLawful (s : State) : Bool := s.ladder.attempts ≤ 4 && (s.ladder.attempts < 4 || s.isMuted)

/-- R178: at most two attempts of a load fail, and while the load runs at most one has. -/
def State.strapResultLawful (s : State) : Bool :=
  s.strap.failed ≤ 2 && (s.membership.state != .strap || s.strap.failed ≤ 1)

/-! ### The parts of one event, in the terms claims state them -/

/-- R201: several notices of one event, in order. -/
def State.depositAll (s : State) (notices : List Notice) : State := notices.foldl State.deposit s

/-- Which reset a command makes at `s` (R172): a power-on, the assertion of a released RESETn, or a whole RESET frame
with an empty body while RESETn is released (R200, R205). -/
def State.resetBy (s : State) (c : Instr) : Option ResetCause :=
  match c with
  | .powerOn _ => some .power
  | .resetnAsserted => if s.resetLine then none else some .line
  | .reset body => if body = [] ∧ s.resetLine = false then some .localPort else none
  | .requestWindow bytes =>
    if decodeWindowBytes bytes = some (.reset []) ∧ s.resetLine = false then some .localPort else none
  | .resetnReleased => none
  | .strapAttemptEnd _ => none
  | .linkBusy => none
  | .readbackMismatch => none
  | .abortMarkComplete => none
  | .lastBitCompared => none
  | .cellEnd _ => none
  | .slotStart _ => none
  | .silenceTimerExpiry => none
  | .frameTimerExpiry => none
  | .queryTimerExpiry => none
  | .sensorFrameStart => none
  | .sensorLine _ => none
  | .sensorFrameEnd => none
  | .readWindow _ => none
  | .status _ => none
  | .table _ => none
  | .roster _ => none
  | .counters _ => none
  | .notice _ => none
  | .slotOff _ => none
  | .slotOn _ => none
  | .slotSet _ => none
  | .leave _ => none
  | .rejoin _ => none

/-- The receiver is in use and the cell that ends is another station's (R101, R106): no own cell is on the link. -/
def State.listens (s : State) : Bool :=
  s.link.receiver == .inUse && s.link.transmitter == .idle && s.link.flight == none

/-- The receiver is in use and the cell that ends is the own cell `f`, which was sent with this report (R106). -/
def State.ends (s : State) (f : Flight) (r : Report) : Bool :=
  s.link.receiver == .inUse && s.link.transmitter == .idle && s.link.flight == some f && f.report == r

/-- What the link interface and the ladder make of a cell's end (R105, R107, R118, R119): the link idle, L and the
counters set, the grid started before slot 0, and in LISTEN the silence timer running again (R57). -/
def State.afterLink (s : State) (j : Judged) : State :=
  let l := j.cls.header?.map Header.sender
  { s with
    link := { s.link with busy := false, lastSender := l }
    ladder := ⟨.running none, rankOf s.own l, s.ladder.attempts⟩
    membership := { s.membership with
      silence := if s.membership.state = .listen then .running else s.membership.silence }
    port := { s.port with counters := countJudged j s.port.counters } }

/-- The same for the own cell heard (R112, R158, R164): it leaves the queue or the store, and the attempt count is 0. -/
def State.afterOwn (s : State) (f : Flight) : State :=
  let t := s.afterLink (.heardGood f.cell)
  { t with
    link := { t.link with flight := none }
    ladder := { t.ladder with attempts := 0 }
    queue := match f.source with
      | .queue k => s.queue.eraseP fun c => c.kind == k
      | .store => s.queue
    store := match f.source with
      | .queue _ => s.store
      | .store => s.store.drop 1 }

/-- R62, R71: a good header at a MEMBER or SUSPECT station: a PRESENT sender was heard, and a control cell's sequence is
its sender's last one. -/
def State.recorded (s : State) (h : Header) : State :=
  let e := s.rosterAt h.sender
  s.setRoster h.sender { e with
    heard := e.heard || e.present
    sequence := match Kind.ofCode h.kind with
      | some .tile => e.sequence
      | none => e.sequence
      | some _ => h.sequence }

/-- R80: the control sequence is the one expected of its sender, or its sender was ABSENT. -/
def State.inSequence (s : State) (h : Header) : Bool :=
  !s.present h.sender || h.sequence == (s.rosterAt h.sender).sequence + 1

/-- A known kind, not QUERY or DUMP, of a well-sized cell (R110) that is heard with the station's own frame (R36). -/
def State.isCurrent (s : State) (k : Kind) (c : Cell) : Bool :=
  Kind.ofCode c.header.kind == some k && c.header.frame == s.frame.number && !malformed c

/-- The local port takes a request: RESETn is released and no reply waits (R188, R205). -/
def State.asks (s : State) : Bool := !s.resetLine && s.port.reply == none

/-- The station takes slot requests (R190, R197): its state allows them and no BYE is queued or on the link. -/
def State.takesSlots (s : State) : Bool :=
  stateAllows s.membership.state 6 && !s.queue.any fun c => c.kind == .bye

/-- `s` with a reply written after a request window of n bytes that found the buffer EMPTY (R185, R186). -/
def State.answered (s : State) (n : Nat) (status : Status) (body : List Byte) : State :=
  { s with port := { s.port with reply := some ⟨status, body, false⟩, ldo := List.replicate n 0 } }

end Sys2Proof.Machine
end

