-- ==== Sys2Proof/WellFormed.lean ====
section
/-! DEFINITION. Which operands a command of the hardware can carry. -/

namespace Sys2Proof

/-- No run of ten recessive bit times (the link would have gone idle there, R101), given the run so far. -/
def noIdleRun : Nat → List Level → Bool
  | _, [] => true
  | run, b :: rest => if b == recessive then run + 1 < 10 && noIdleRun (run + 1) rest else noIdleRun 0 rest

/-- The levels of one cell as a receiver sees them (R101): they begin with the first dominant level, they end with the
tenth recessive bit time of a run, and no run of ten stands before. -/
def cellLevels (levels : List Level) : Bool :=
  levels.headD recessive == dominant && noIdleRun 0 levels.dropLast && 10 ≤ levels.length &&
    (levels.drop (levels.length - 10)).all (· == recessive)

/-- A strap read is well formed when an image it brings has 72 bytes (R175). -/
def StrapRead.wf : StrapRead → Bool
  | .sdaHeldLow => true
  | .notAcknowledged _ => true
  | .image bytes => bytes.length == 72

/-- A body that a frame's one length byte can announce (section 11.5). -/
def bodyWf (body : List Byte) : Bool := body.length ≤ 255

/-- A command the hardware can meet: a 72-byte image, the levels of one cell, a window of at least one byte, a request
window that no other row stands for (R187), a body of at most 255 bytes. -/
def Instr.wf (i : Instr) : Bool :=
  match i with
  | .powerOn _ => true
  | .resetnAsserted => true
  | .resetnReleased => true
  | .strapAttemptEnd read => read.wf
  | .linkBusy => true
  | .readbackMismatch => true
  | .abortMarkComplete => true
  | .lastBitCompared => true
  | .cellEnd levels => cellLevels levels
  | .slotStart _ => true
  | .silenceTimerExpiry => true
  | .frameTimerExpiry => true
  | .queryTimerExpiry => true
  | .sensorFrameStart => true
  | .sensorLine _ => true
  | .sensorFrameEnd => true
  | .readWindow n => 1 ≤ n
  | .requestWindow bytes => decodeWindowBytes bytes == some (.requestWindow bytes)
  | .status body => bodyWf body
  | .table body => bodyWf body
  | .roster body => bodyWf body
  | .counters body => bodyWf body
  | .notice body => bodyWf body
  | .slotOff body => bodyWf body
  | .slotOn body => bodyWf body
  | .slotSet body => bodyWf body
  | .leave body => bodyWf body
  | .rejoin body => bodyWf body
  | .reset body => bodyWf body

end Sys2Proof
end

