-- ==== Sys2Proof/Certificates/Slice0/Obligations.lean ====
section
/-! DEFINITION. The statements about the TS-416 model. -/

open Sys2Proof Sys2Proof.Machine

/-! ### Steps and resets -/

/-- A step runs the command at the front of the queue with the queue's rest; on an empty queue the block idles (the
model's queue, log entries 8 and 9). -/
def Obligations.StepRunsTheFrontCommand : Prop :=
  ∀ (c : Instr) (s : State),
    step { s with pending := c :: s.pending } = exec c s ∧
    step { s with pending := [] } = .next { s with pending := [] }

/-- Every command completes in every state, and only some commands reach three parts of the state: the RESETn level
(R172), the strap loader (R172, R173, R178, R180), and the model's count of free values (log entry 6). No command
touches the queue of waiting commands. -/
def Obligations.EveryCommandCompletes : Prop :=
  ∀ (c : Instr) (s : State), ∃ t, exec c s = .next t ∧ t.pending = s.pending ∧
    ((∀ b, c ≠ .powerOn b) → c ≠ .resetnAsserted → c ≠ .resetnReleased → t.resetLine = s.resetLine) ∧
    (s.resetBy c = none → (∀ r, c ≠ .strapAttemptEnd r) → t.strap = s.strap) ∧
    ((∀ l, c ≠ .cellEnd l) → t.free = s.free) ∧ s.free ≤ t.free ∧ t.free ≤ s.free + 1

/-- What a reset leaves, as each block's own rule gives it (R1, R14, R17, R31 to R34, R55, R57, R61, R70, R78, R101,
R107, R111, R117, R132, R133, R135, R154, R162, R172, R178, R186, R201, R204). Of the three kinds `State.reset` is the
power-on (R173; the model's choice, log entry 1). The laws of Safety.lean, which the invariants below keep, hold
there. -/
def Obligations.ResetStateHoldsTheStatedValues : Prop :=
  let r := State.reset
  (r.claims.table = [] ∧ r.claims.removalMark = false ∧
    ∀ n, r.slotAt n = ⟨.mono8, ⟨0, 0, 0, 0⟩, ⟨0, 0⟩, .off, false, false⟩) ∧
  r.frame = ⟨0, [], false, 0⟩ ∧
  (r.membership.state = .strap ∧ r.membership.sequence = 0 ∧ r.membership.silence = .stopped ∧
    ∀ i, r.rosterAt i = ⟨false, 0, false, 0⟩) ∧
  r.recovery = ⟨false, 0, []⟩ ∧
  (r.link.receiver = .notInUse ∧ r.link.transmitter = .idle ∧ r.link.flight = none ∧ r.link.lastSender = none) ∧
  r.ladder = ⟨.stopped, 0, 0⟩ ∧
  (r.capture.inFrame = false ∧ r.capture.rowCounter = 0 ∧ ∀ n, r.contextAt n = .idle) ∧
  r.store = [] ∧ r.queue = [] ∧
  (r.strap.words = List.replicate 36 0 ∧ r.strap.failed = 0 ∧ r.strap.detail = .none ∧ r.strap.cause = .power ∧
    r.strap.resetCount = 0) ∧
  (r.port.reply = none ∧ r.port.notices = [] ∧ r.port.noticesLost = 0 ∧ r.attn = false ∧
    r.port.counters.bytes = List.replicate 38 0) ∧
  (r.noticesBounded = true ∧ r.tableBounded = true ∧ r.storeBounded = true ∧ r.rowsCounted = true ∧ r.queuePlaces = true ∧
    r.timersLawful = true ∧ r.silentEmpty = true ∧ r.gridLawful = true ∧ r.flightLawful = true ∧ r.suspectQueue = true ∧
    r.framesAgree = true ∧ r.tilesLawful = true ∧ storeMarkers r.store ≤ 4 ∧ r.rosterLawful = true ∧ r.strapValid = true ∧
    r.unloadedBlank = true ∧ r.recoveryLawful = true ∧ r.attemptsLawful = true ∧ r.strapResultLawful = true ∧
    r.givenLawful = true ∧ r.slotsLawful = true)

/-- R172: the three kinds of reset and the release of RESETn, each with its next state in full. Every block takes its
reset value; the level of the link and the model's own fields are not the station's to reset (log entry 2). A window
that ends while RESETn is asserted has no effect but 0x00 on LDO (R205); a second assertion cannot arise and changes
nothing (log entry 7). -/
def Obligations.ThreeKindsOfReset : Prop :=
  ∀ (s : State),
    let after (cause : ResetCause) (count : Byte) (line : Bool) (ldo : List Byte) : State :=
      { State.reset with
        strap := { State.reset.strap with cause := cause, resetCount := count }
        link := { State.reset.link with busy := s.link.busy }
        port := { State.reset.port with ldo := ldo }
        resetLine := line
        free := s.free
        pending := s.pending }
    (∀ line, exec (.powerOn line) s = .next (after .power 0 line [])) ∧
    exec .resetnAsserted s = .next (if s.resetLine then s else after .line (satInc8 s.strap.resetCount) true []) ∧
    exec .resetnReleased s = .next { s with resetLine := false } ∧
    exec (.reset []) s = .next (
      if s.resetLine then { s with port := { s.port with ldo := [0, 0, 0] } }
      else after .localPort (satInc8 s.strap.resetCount) false (requestLdo s.port.reply 3))

/-- R173: each reset sets the reset cause record, every other event keeps it, and the STATUS body reports it. -/
def Obligations.ResetCauseRecord : Prop :=
  ∀ (c : Instr) (s t : State), exec c s = .next t →
    (match s.resetBy c with
      | some .power => t.strap.cause = .power ∧ t.strap.resetCount = 0
      | some .line => t.strap.cause = .line ∧ t.strap.resetCount.toNat = min (s.strap.resetCount.toNat + 1) 255
      | some .localPort =>
        t.strap.cause = .localPort ∧ t.strap.resetCount.toNat = min (s.strap.resetCount.toNat + 1) 255
      | none => t.strap.cause = s.strap.cause ∧ t.strap.resetCount = s.strap.resetCount) ∧
    t.statusBody[20]? = some t.strap.cause.code ∧ t.statusBody[21]? = some t.strap.resetCount

/-! ### The strap load -/

/-- R176, R177: an image is judged by its tag, its sum, and its fields in the order of the table; the first failure
fails the attempt with its detail, and an image without one passes. The words are read from the 72 bytes less
significant byte first. -/
def Obligations.StrapImageIsJudgedInOrder : Prop :=
  (∀ (bytes : List Byte) (k : Nat), k < 36 →
    (strapWord (imageWords bytes) k).toNat = (bytes.getD (2 * k) 0).toNat + 256 * (bytes.getD (2 * k + 1) 0).toNat) ∧
  ∀ (words : List Word),
    let w (k : Nat) : Nat := (words.getD k 0).toNat
    let hello := w 1 / 256 % 16
    let timeout := w 1 / 4096
    (∀ bytes, imageWords bytes = words → judgeRead (.image bytes) = (match judgeImage words with
      | some d => .inl d
      | none => .inr words)) ∧
    judgeImage words =
      ([(decide (w 0 ≠ 0x53A1), StrapDetail.tag),
        (decide ((words.map BitVec.toNat).sum % 65536 ≠ 0), .checksum),
        (decide (w 1 / 16 % 16 ∉ [0, 1]), .sensorKind),
        (decide (hello ∉ Finset.Icc 1 8), .helloInterval),
        (decide (timeout ∉ Finset.Icc 3 15 ∨ timeout < hello + 2), .rosterTimeout),
        (decide (w 2 ∉ Finset.Icc 1 255), .divider),
        (decide (w 3 ∉ Finset.Icc 1 255), .frameTimeout),
        (decide (w 4 ∉ Finset.Icc 16 4095), .silenceWindow),
        (decide (w 5 ∉ Finset.Icc 64 4096 ∨ w 5 % 16 ≠ 0), .compositeW),
        (decide (w 6 ∉ Finset.Icc 16 4096), .compositeH)].find? Prod.fst).map Prod.snd

/-- R175, R178 to R182: the end of a strap attempt while a load is in progress. A passing image becomes the working
copy, the slots are loaded from its records with one INVALID notice for each enabled record that fails the local
checks, and the station is in LISTEN with the silence timer, the receiver and the grid as the link's level has them.
R178, R179: a failed attempt raises the failed count and leaves its detail. The first one leaves the station in STRAP;
the second one of the load ends in MUTED(STRAP) with the receiver taken into use (log entry 26 for an idle link). With
no load in progress no attempt ends, and nothing changes (log entry 7). R175: what passes on SDA in a transaction, bit
by bit and with every acknowledge bit (kept as the record of the last transaction, log entry 5). -/
def Obligations.StrapLoadEnds : Prop :=
  (∀ (s : State) (bytes : List Byte),
     s.membership.state = .strap → s.resetLine = false → judgeImage (imageWords bytes) = none →
     let w := imageWords bytes
     let slot (n : SlotNo) : Slot :=
       let f := Format.ofBits (recordWord w n 0).toNat
       let r := recordRegion w n
       let c : Crop := ⟨recordWord w n 5, recordWord w n 6⟩
       ⟨f, r, c, .off, recordEnabled w n && localChecks w n f r c, false⟩
     let invalid := slotOrder.filter fun n => recordEnabled w n && !(slot n).startOn
     let t := s.depositAll ((invalid.map fun n => Notice.slot n .off .invalid) ++ [.state .listen .start])
     exec (.strapAttemptEnd (.image bytes)) s = .next { s with
       strap := { s.strap with words := w, signals := strapSignals (.image bytes) }
       claims := { s.claims with slots := tab4 slot }
       port := t.port
       membership := { s.membership with state := .listen, silence := if s.link.busy then .held else .running }
       link := { s.link with receiver := if s.link.busy then .awaitingIdle else .inUse }
       ladder := if s.link.busy then s.ladder
         else ⟨.running none, rankOf (strapNumber w) s.link.lastSender, s.ladder.attempts⟩ }) ∧
  (∀ (bytes : List Byte) (k : Fin 4),
     let bits (b : Byte) : List Bool := (List.range 8).map fun i => b.getLsbD (7 - i)
     let select (i : Nat) (acknowledged : Bool) : List StrapSignal :=
       (if i = 0 then [.start] else if i = 3 then [.repeatedStart] else []) ++
         (bits ([0x58, 0x00, 0x00, 0x59].getD i 0)).map StrapSignal.sent ++ [.memoryAck acknowledged]
     strapSignals .sdaHeldLow = [] ∧
     strapSignals (.notAcknowledged k) = (List.range (k + 1)).flatMap (fun i => select i (i < k)) ++ [.stop] ∧
     strapSignals (.image bytes) = (List.range 4).flatMap (fun i => select i true) ++
       ((List.range 72).flatMap fun i =>
         (bits (bytes.getD i 0)).map StrapSignal.clocked ++ [.stationAck (i < 71)]) ++ [.stop]) ∧
  ∀ (s : State) (read : StrapRead),
    (¬ (s.membership.state = .strap ∧ s.resetLine = false) → exec (.strapAttemptEnd read) s = .next s) ∧
    ∀ d ∈ (judgeRead read).getLeft?, s.membership.state = .strap → s.resetLine = false →
    let t := { s with strap := { s.strap with failed := s.strap.failed + 1, detail := d, signals := strapSignals read } }
    exec (.strapAttemptEnd read) s = .next (
      if s.strap.failed = 0 then t
      else { t.enterMuted .strap .strap with
        link := { s.link with
          transmitter := .idle
          flight := none
          receiver := if s.link.busy then .awaitingIdle else .inUse }
        ladder := if s.link.busy then s.ladder
          else ⟨.running none, rankOf s.own s.link.lastSender, s.ladder.attempts⟩ })

/-! ### The transmitter and the ladder -/

/-- R123, R57, R101: the link becomes busy: the grid stops and a running silence timer is held. R112, R113: what the
transmitter reports of its cell. From SENDING, a mismatch takes it to MARKING and the last bit compared to IDLE; from
MARKING, the mark's end takes it to IDLE. In the other states the event cannot arise, and nothing changes (log entry
7). -/
def Obligations.LinkBusyAndTheTransmitterReports : Prop :=
  (∀ (s : State), exec .linkBusy s = .next { s with
     link := { s.link with busy := true }
     ladder := { s.ladder with grid := .stopped }
     membership := { s.membership with
       silence := match s.membership.silence with
         | .stopped => .stopped
         | .running => .held
         | .held => .held } }) ∧
  ∀ (s : State),
    let reported (tx : Transmitter) (r : Report) : State :=
      { s with link := { s.link with transmitter := tx, flight := s.link.flight.map fun f => { f with report := r } } }
    exec .readbackMismatch s = .next (if s.link.transmitter = .sending then reported .marking .mismatched else s) ∧
    exec .lastBitCompared s = .next (if s.link.transmitter = .sending then reported .idle .matched else s) ∧
    exec .abortMarkComplete s =
      .next (if s.link.transmitter = .marking then { s with link := { s.link with transmitter := .idle } } else s)

/-- R121, R111, R35, R70, R169, R170: at a slot of the station's rank on an idle link, a station with a control cell
to send starts it: the head of a MEMBER's queue, the QUERY of a SYNCING or SUSPECT station. The cell holds the number
it was given, or one more than the own counter at its first attempt. R121, R157, R169: with an empty queue, a MEMBER's
turn starts the TILE of the first store entry: a row, a row with LAST behind its rows-missing count, or the count
alone. -/
def Obligations.TurnStartsTheSelectedCell : Prop :=
  (∀ (s : State) (j : Nat) (last : Option Nat) (before after : List QueuedCell) (c : QueuedCell),
     s.ladder.grid = .running last → (∀ i ∈ last, i < j) → s.link.busy = false → j % 16 = s.ladder.rank.val →
     s.queue = before ++ c :: after →
     ((s.membership.state = .member ∧ before = []) ∨
       ((s.membership.state = .syncing ∨ s.membership.state = .suspect) ∧ c.kind = .query ∧
         ∀ d ∈ before, d.kind ≠ .query)) →
     let q := c.given.getD (s.membership.sequence + 1)
     let frame := match c.kind with
       | .close f => f
       | .query => if s.membership.state = .syncing then s.frame.lastHeard else s.frame.number
       | _ => s.frame.number
     let payload := s.controlPayload c.kind
     let cell : Cell := ⟨⟨c.kind.kind.code, s.own, frame, q, lengthField payload.length, 0, 0⟩, payload⟩
     let crop := match c.kind with
       | .claim n => (s.slotAt n).crop
       | _ => ⟨0, 0⟩
     exec (.slotStart j) s = .next { s with
       queue := before ++ { c with given := some q, inFlight := true } :: after
       membership := { s.membership with
         sequence := if c.given = none then q else s.membership.sequence
         silence := if s.membership.silence = .running then .held else s.membership.silence }
       link := { s.link with busy := true, transmitter := .sending, flight := some ⟨cell, .queue c.kind, crop, .none⟩ }
       ladder := { s.ladder with grid := .stopped } }) ∧
  ∀ (s : State) (j : Nat) (last : Option Nat) (e : StoreEntry) (rest : List StoreEntry),
    s.ladder.grid = .running last → (∀ i ∈ last, i < j) → s.link.busy = false → j % 16 = s.ladder.rank.val →
    s.membership.state = .member → s.queue = [] → s.store = e :: rest →
    let payload := match e.sort with
      | .row bytes => bytes
      | .lastRow missing bytes => wordBytes (BitVec.ofNat 16 missing) ++ bytes
      | .endMarker missing => wordBytes (BitVec.ofNat 16 missing)
    let flags : BitVec 4 := match e.sort with
      | .row _ => 0
      | .lastRow _ _ => 1
      | .endMarker _ => 1
    let cell : Cell := ⟨⟨4, s.own, e.frame, 0, lengthField payload.length, flags, tileAux e.slot e.tileRow⟩, payload⟩
    exec (.slotStart j) s = .next { s with
      store := { e with inFlight := true } :: rest
      membership := { s.membership with
        silence := if s.membership.silence = .running then .held else s.membership.silence }
      link := { s.link with busy := true, transmitter := .sending, flight := some ⟨cell, .store, ⟨0, 0⟩, .none⟩ }
      ladder := { s.ladder with grid := .stopped } }

/-- R120, R121: a slot that starts nothing: it only moves the grid on, when it is not of the station's rank or the
station has no cell it may send (a MEMBER with queue and store empty, a SYNCING or SUSPECT station without a QUERY,
any other state). R121, R123: no slot begins on a stopped grid, on a busy link, or again once it is past; nothing
changes then (log entry 7). -/
def Obligations.SlotStartsNothing : Prop :=
  (∀ (s : State) (j : Nat) (last : Option Nat),
     s.ladder.grid = .running last → (∀ i ∈ last, i < j) → s.link.busy = false →
     (j % 16 ≠ s.ladder.rank.val ∨
       (match s.membership.state with
         | .member => s.queue = [] ∧ s.store = []
         | .syncing => ∀ c ∈ s.queue, c.kind ≠ .query
         | .suspect => ∀ c ∈ s.queue, c.kind ≠ .query
         | _ => True)) →
     exec (.slotStart j) s = .next { s with ladder := { s.ladder with grid := .running (some j) } }) ∧
  ∀ (s : State) (j : Nat),
    (s.ladder.grid = .stopped ∨ s.link.busy = true ∨ ∃ i, s.ladder.grid = .running (some i) ∧ j ≤ i) →
    exec (.slotStart j) s = .next s

/-! ### Cells on the link -/

/-- R103, R206: the 72 header positions carry the data word back; any one wrong position is repaired to it, and any
two are found uncorrectable. -/
def Obligations.HeaderRepairsOneErrorFindsTwo : Prop :=
  ∀ (d : BitVec 64),
    let sent := headerPositions d
    let wrong (bits : List Bool) (p : Nat) : List Bool := bits.set p (!bits.getD p false)
    sent.length = 72 ∧ checkHeader sent = .good sent ∧ positionsWord sent = d ∧
    (∀ p < 72, ∃ bits, checkHeader (wrong sent p) = .repaired bits ∧ positionsWord bits = d) ∧
    ∀ p < 72, ∀ q < 72, p ≠ q → checkHeader (wrong (wrong sent p) q) = .uncorrectable

/-- R100 to R105, R206: a cell sent whole and read undisturbed is heard as it was sent, with no counter moved, and its
levels are a well-formed operand of CELL_END. -/
def Obligations.CellSignalIsHeardAsSent : Prop :=
  ∀ (c : Cell), c.payload.length ≤ 2050 → c.header.length.toNat = c.payload.length →
    (Instr.cellEnd (untilIdle (cellSignal c))).wf = true ∧
    judgeLevels (untilIdle (cellSignal c)) = ⟨.heard c, none, false⟩

/-- R105, R114: an abort mark ends the cell it interrupts: the cell is damaged, whatever the header did, and behind the
start delimiter it counts as aborted. Within the delimiter it counts as header-bad (the model's choice, log entry 35). -/
def Obligations.AbortMarkDamagesTheCell : Prop :=
  ∀ (c : Cell) (n : Nat),
    judgeLevels (untilIdle ((cellSignal c).take n ++ List.replicate 16 dominant)) =
      if 9 ≤ n then ⟨.damaged, some .aborted, false⟩ else ⟨.damaged, some .headerBad, false⟩

/-- R67, R20, R111, section 11.3: what a HELLO, a CLAIM and a RELEASE carry when their transmission starts, read back
from their payloads at the lengths of R110. R90, R207, section 11.3: a DUMP's payload is read back as the plan it was
captured from: requesters, entries without their owner-local parts, the outstanding marks by position, and the roster.
-/
def Obligations.ControlPayloadsReadBack : Prop :=
  (∀ (s : State) (n : SlotNo),
     let hello := s.controlPayload .hello
     let claim := s.controlPayload (.claim n)
     hello.length = 9 ∧ claim.length = 10 ∧
     helloOf hello = ⟨BitVec.ofNat 16 (strapWidth s.strap.words), BitVec.ofNat 16 (strapHeight s.strap.words),
       BitVec.ofNat 8 (strapRosterTimeout s.strap.words), tableDigest s.claims.table, stationBits s.present⟩ ∧
     (∀ i : Station, (helloOf hello).present.getLsbD i.val = (s.rosterAt i).present) ∧
     (claimOf claim).slot.toNat = n.val ∧ Format.ofBits (claimOf claim).format.toNat = (s.slotAt n).format ∧
     (claimOf claim).region = (s.slotAt n).region ∧
     (s.controlPayload (.release n)).length = 1 ∧ ((s.controlPayload (.release n)).getD 0 0).toNat = n.val ∧
     (∀ f, s.controlPayload (.close f) = []) ∧ s.controlPayload .query = [] ∧ s.controlPayload .bye = []) ∧
  ∀ (s : State), s.claims.table.length ≤ 32 → (∀ i, (s.rosterAt i).age < 16) →
    ∃ d, dumpOf (s.controlPayload .dump) = some d ∧
      (s.controlPayload .dump).length = 39 + 10 * s.claims.table.length ∧
      (∀ i, d.names i = decide (i ∈ s.recovery.dumpPending)) ∧
      d.entries = s.claims.table.map (fun e => { e with localPart := none }) ∧
      (∀ k, d.outstanding.getLsbD k = (s.claims.table[k]?).any fun e => s.frame.outstanding.contains e.key) ∧
      d.roster = s.membership.roster

/-- R105 to R110, R116, R108: a cell that the station did not send, where its units take nothing from it: a damaged
cell in any state, any cell in MUTED, and in LEFT a cell of another station (one with the own number mutes, R76). What
changes is L, the grid and its rank, the link counters, and in LISTEN the silence timer, which runs again (R57); the
attempt count goes to 0 where the station has no cell it may send (R128, log entry 25). R101, R57, R118: the link goes
idle at a receiver that is not in use, or that waits for idle and is then taken into use with a grid; in neither case
is the cell judged. While the transmitter drives the link cannot go idle, and nothing changes (log entry 7). -/
def Obligations.OnlyTheLinkHears : Prop :=
  (∀ (s : State) (levels : List Level),
     s.listens = true →
     let j := judgeLevels levels
     let l := j.cls.header?.map Header.sender
     (j.cls = .damaged ∨ s.isMuted = true ∨ (s.membership.state = .left ∧ l ≠ some s.own)) →
     exec (.cellEnd levels) s = .next { s with
       link := { s.link with busy := false, lastSender := l }
       ladder := ⟨.running none, (match l with
         | some x => Fin.ofNat 16 (s.own.val + 15 - x.val + 16)
         | none => s.own), if s.isMuted = true ∨ s.contends = true then s.ladder.attempts else 0⟩
       membership := { s.membership with
         silence := if s.membership.state = .listen then .running else s.membership.silence }
       port := { s.port with counters := { s.port.counters with
         aborted := satAdd s.port.counters.aborted (if j.damage = some .aborted then 1 else 0)
         headerBad := satAdd s.port.counters.headerBad (if j.damage = some .headerBad then 1 else 0)
         oversize := satAdd s.port.counters.oversize (if j.damage = some .oversize then 1 else 0)
         payloadBad := satAdd s.port.counters.payloadBad (match j.cls with
           | .headerHeard _ => 1
           | _ => 0)
         headerFixed := satAdd s.port.counters.headerFixed (if j.repaired then 1 else 0)
         unknownKind := satAdd s.port.counters.unknownKind (match j.cls with
           | .heard c => if Kind.ofCode c.header.kind = none ∨ malformed c = true then 1 else 0
           | .headerHeard h => if Kind.ofCode h.kind = none then 1 else 0
           | .damaged => 0) } } }) ∧
  ∀ (s : State) (levels : List Level), s.link.receiver ≠ .inUse ∨ s.link.transmitter ≠ .idle →
    exec (.cellEnd levels) s = .next (
      if s.link.transmitter ≠ .idle then s
      else if s.link.receiver = .notInUse then { s with link := { s.link with busy := false } }
      else { s with
        link := { s.link with busy := false, receiver := .inUse }
        ladder := ⟨.running none, rankOf s.own s.link.lastSender, s.ladder.attempts⟩
        membership := { s.membership with
          silence := if s.membership.state = .listen then .running else s.membership.silence } })

/-- R76, R77: a cell with a good or repaired header and the station's own number, which the station did not send,
makes it MUTED(DUPLICATE) in every state past STRAP except MUTED. The cell is applied nowhere else. R77: entry into
MUTED. The transmitter, the queue, the store, the contexts, the timers and the dump-pending set are cleared, a STATE
notice is deposited, and everything else is frozen as it was. -/
def Obligations.DuplicateNumberMutes : Prop :=
  (∀ (s : State) (levels : List Level) (h : Header),
     s.listens = true → s.membership.state ≠ .strap → s.isMuted = false →
     (judgeLevels levels).cls.header? = some h → h.sender = s.own →
     exec (.cellEnd levels) s = .next ((s.afterLink (judgeLevels levels)).enterMuted .duplicate .duplicate)) ∧
  ∀ (s : State) (cause : MuteCause) (why : StateCause),
    s.enterMuted cause why = { s with
      queue := []
      store := []
      link := { s.link with transmitter := .idle, flight := none }
      capture := { s.capture with contexts := #v[.idle, .idle, .idle, .idle] }
      frame := { s.frame with timerRunning := false }
      membership := { s.membership with state := .muted cause, silence := .stopped }
      recovery := { s.recovery with timerRunning := false, dumpPending := [] }
      port := (s.deposit (.state (.muted cause) why)).port }

/-- R58, R69, R60: another station's good header before the station is MEMBER. In LISTEN it takes the station to
SYNCING with a QUERY queued; in SYNCING its frame is recorded as the last heard one (a DUMP that names the station is
R92's). A heard HELLO whose parameters differ takes the station to MUTED(PARAMS): from LISTEN with nothing recorded,
from SYNCING with its frame recorded before (log entry 32). The attempt count is settled at the event's end (log entry
25). -/
def Obligations.ListenAndSyncingHear : Prop :=
  ∀ (s : State) (levels : List Level) (h : Header),
    s.listens = true → (judgeLevels levels).cls.header? = some h → h.sender ≠ s.own →
    let u := s.afterLink (judgeLevels levels)
    let payload := match (judgeLevels levels).cls with
      | .heard c => c.payload
      | _ => []
    let mismatch : Bool := match (judgeLevels levels).cls with
      | .heard c => Kind.ofCode h.kind == some .hello && !malformed c && !s.paramsMatch (helloOf c.payload)
      | _ => false
    (s.membership.state = .listen → exec (.cellEnd levels) s = .next (
      if mismatch then u.enterMuted .params .params
      else State.settleAttempts { u with
        queue := (s.enqueue .query).queue
        frame := { s.frame with lastHeard := h.frame }
        membership := { s.membership with state := .syncing, silence := .stopped }
        recovery := { s.recovery with attempts := 1 }
        port := (u.deposit (.state .syncing .heard)).port })) ∧
    (s.membership.state = .syncing →
      (Kind.ofCode h.kind = some .dump → ∀ d ∈ dumpOf payload, d.names s.own = false) →
      let t := { u with frame := { s.frame with lastHeard := h.frame } }
      exec (.cellEnd levels) s = .next (if mismatch then t.enterMuted .params .params else t.settleAttempts))

/-- R37, R62, R71: a behind cell of another station at a MEMBER or SUSPECT station is recorded and counted by its
kind, and applied nowhere. (A control cell out of sequence at a MEMBER is GAP's matter, R80.) R38, R80 to R82, R79,
R84: the header alone makes a MEMBER SUSPECT: an ahead cell, or a header-heard HELLO, CLAIM or RELEASE that is not
behind. A control cell out of sequence gives GAP and counts, the header-heard one LOST, an ahead cell AHEAD, the first
of them deciding the cause; the cell is then applied nowhere. R38: an ahead cell at a SUSPECT station is recorded and
applied nowhere. The attempt count is settled at the event's end (log entry 25). -/
def Obligations.CellsOfOtherFrames : Prop :=
  (∀ (s : State) (levels : List Level) (h : Header) (k : Kind),
     s.listens = true → s.membership.state = .member ∨ s.membership.state = .suspect →
     (judgeLevels levels).cls.header? = some h → h.sender ≠ s.own → Kind.ofCode h.kind = some k →
     k ∉ [Kind.query, .dump] → 32768 ≤ (h.frame - s.frame.number).toNat →
     k = .tile ∨ s.membership.state = .suspect ∨ s.inSequence h = true →
     exec (.cellEnd levels) s = .next (State.settleAttempts
       (((s.afterLink (judgeLevels levels)).recorded h).count fun c =>
         if k = .tile then { c with lateTile := satAdd c.lateTile 1 }
         else if k = .close then { c with staleClose := satAdd c.staleClose 1 }
         else { c with lag := satAdd c.lag 1 }))) ∧
  (∀ (s : State) (levels : List Level) (h : Header) (k : Kind),
     s.listens = true → s.membership.state = .suspect →
     (judgeLevels levels).cls.header? = some h → h.sender ≠ s.own → Kind.ofCode h.kind = some k →
     k ∉ [Kind.query, .dump] → (h.frame - s.frame.number).toNat ∈ Finset.Icc 1 32767 →
     exec (.cellEnd levels) s = .next (State.settleAttempts ((s.afterLink (judgeLevels levels)).recorded h))) ∧
  ∀ (s : State) (levels : List Level) (h : Header) (k : Kind),
    s.listens = true → s.membership.state = .member →
    (judgeLevels levels).cls.header? = some h → h.sender ≠ s.own → Kind.ofCode h.kind = some k →
    k ∉ [Kind.query, .dump] →
    ((h.frame - s.frame.number).toNat ∈ Finset.Icc 1 32767 ∨
      (h.frame = s.frame.number ∧ k ∈ [Kind.hello, .claim, .release] ∧ (judgeLevels levels).cls = .headerHeard h)) →
    let u := (s.afterLink (judgeLevels levels)).recorded h
    let gap := k ≠ .tile ∧ s.inSequence h = false
    let lost := k ∈ [Kind.hello, .claim, .release] ∧ (judgeLevels levels).cls = .headerHeard h
    exec (.cellEnd levels) s = .next (State.settleAttempts (
      if gap then (u.count fun c => { c with seqGap := satAdd c.seqGap 1 }).enterSuspect .gap
      else if lost then u.enterSuspect .lost
      else u.enterSuspect .ahead))

/-- R80, R79, R85: a control cell out of sequence at a MEMBER, of whatever frame and kind but a DUMP that names the
station (R91), is GAP: counted (with R83's digest that differs), the station enters SUSPECT, and the cell is then
taken as a SUSPECT station takes it. R109, R110, R62, R71, R91, R207, R85: what is recorded, liveness and sequence,
and applied nowhere, in sequence at a MEMBER or at a SUSPECT station: a cell of unknown kind; a malformed or
header-heard control cell of the current frame that is no sign (R81); a malformed QUERY, a header-heard or unusable
DUMP (GAP on such a DUMP: log entry 19); at a SUSPECT station, a QUERY and a DUMP that does not name it. The attempt
count is settled at the event's end (log entry 25). -/
def Obligations.GapAndUnusableCells : Prop :=
  (∀ (s : State) (levels : List Level) (h : Header) (k : Kind),
     s.listens = true → s.membership.state = .member → (judgeLevels levels).cls.header? = some h → h.sender ≠ s.own →
     Kind.ofCode h.kind = some k → k ≠ .tile → s.inSequence h = false →
     (∀ c ∈ (match (judgeLevels levels).cls with
         | .heard c => some c
         | _ => none), k = .dump → ∀ d ∈ dumpOf c.payload, d.names s.own = false) →
     let differs : Bool := match (judgeLevels levels).cls with
       | .heard c => s.isCurrent .hello c && s.paramsMatch (helloOf c.payload) &&
           (helloOf c.payload).present.getLsbD s.own.val && (helloOf c.payload).digest != tableDigest s.claims.table
       | _ => false
     let counted := s.count fun c => { c with
       seqGap := satAdd c.seqGap 1
       digestMismatch := if differs then satAdd c.digestMismatch 1 else c.digestMismatch }
     exec (.cellEnd levels) s = exec (.cellEnd levels) (counted.enterSuspect .gap)) ∧
  ∀ (s : State) (levels : List Level) (h : Header),
    s.listens = true → s.membership.state = .member ∨ s.membership.state = .suspect →
    (judgeLevels levels).cls.header? = some h → h.sender ≠ s.own →
    let lost : Bool := match (judgeLevels levels).cls with
      | .heard _ => false
      | _ => true
    let unusable : Bool := match (judgeLevels levels).cls with
      | .heard c => malformed c || (Kind.ofCode h.kind == some .dump && (dumpOf c.payload).isNone)
      | _ => true
    let unasked : Bool := match (judgeLevels levels).cls with
      | .heard c => Kind.ofCode h.kind == some .query ||
          (Kind.ofCode h.kind == some .dump && (dumpOf c.payload).all fun d => !d.names s.own)
      | _ => false
    (match Kind.ofCode h.kind with
      | none => True
      | some .tile => False
      | some k =>
        (s.membership.state = .suspect ∨
          (s.inSequence h = true ∧ ¬ (lost = true ∧ k ∈ [Kind.hello, .claim, .release]))) ∧
        ((unusable = true ∧ (k ∈ [Kind.query, .dump] ∨ h.frame = s.frame.number)) ∨
          (unasked = true ∧ s.membership.state = .suspect))) →
    exec (.cellEnd levels) s = .next (State.settleAttempts ((s.afterLink (judgeLevels levels)).recorded h))

/-- R84, R26, R70: entry into SUSPECT. The plan's cells and a DUMP that are not on the link leave the queue, each
given number is returned (a waiting BYE's too), PROPOSED slots become WANTED, a QUERY is queued with the attempt count
at 1, and everything else is kept. -/
def Obligations.SuspectEntry : Prop :=
  ∀ (s : State) (why : StateCause),
    let leaves (c : QueuedCell) : Bool := !c.inFlight && c.kind != .query && c.kind != .bye
    let stays := (s.queue.filter fun c => !leaves c).map fun c => if c.kind = .bye then { c with given := none } else c
    let returned := s.queue.countP fun c => c.given.isSome && (leaves c || c.kind == .bye)
    let proposed := slotOrder.filter fun n => (s.slotAt n).state == .proposed
    s.enterSuspect why = { s with
      queue := stays ++ (if stays.any (fun c => c.kind = .query) then [] else [⟨.query, none, false⟩])
      claims := { s.claims with slots := tab4 fun n =>
        if (s.slotAt n).state = .proposed then { s.slotAt n with state := .wanted, offAfter := false } else s.slotAt n }
      membership := { s.membership with
        state := .suspect
        sequence := s.membership.sequence - BitVec.ofNat 8 returned }
      recovery := { s.recovery with attempts := 1, dumpPending := [] }
      port := (s.depositAll ((proposed.map fun n => Notice.slot n .wanted .suspect) ++ [.state .suspect why])).port }

/-- R69, R83, R79: a current HELLO in sequence from a sender that is PRESENT, at a MEMBER. Parameters that differ are
counted. Otherwise the station's own view is compared: a present set without a station that holds itself PRESENT gives
OMITTED, and with it a digest that differs is counted and makes the station SUSPECT when the sender's number is lower.
R68, R71: a current HELLO with equal parameters admits an ABSENT sender: PRESENT with age 0, its flag set, its last
sequence the HELLO's. No comparison is made on that HELLO. R64, R20: the own HELLO heard at a MEMBER makes the own
entry PRESENT with age 0, its heard-this-frame flag as it was (log entry 23), and WANTED slots queue their CLAIMs; the
own entry already PRESENT, it is only recorded. R69, R85: no comparison is made on a HELLO heard in SUSPECT or from an
ABSENT sender; one whose parameters differ is counted, and from an ABSENT sender admits nobody. The attempt count is
settled at the event's end (log entry 25). -/
def Obligations.HelloIsHeard : Prop :=
  (∀ (s : State) (levels : List Level) (c : Cell),
     s.listens = true → s.membership.state = .member → (judgeLevels levels).cls = .heard c → c.header.sender ≠ s.own →
     s.isCurrent .hello c = true → s.inSequence c.header = true → s.present c.header.sender = true →
     let b := helloOf c.payload
     let u := (s.afterLink (judgeLevels levels)).recorded c.header
     let agrees := b.width.toNat = strapWidth s.strap.words ∧ b.height.toNat = strapHeight s.strap.words ∧
       b.rosterTimeout.toNat = strapRosterTimeout s.strap.words
     let differs := u.count fun k => { k with digestMismatch := satAdd k.digestMismatch 1 }
     exec (.cellEnd levels) s = .next (State.settleAttempts (
       if ¬ agrees then u.count fun k => { k with paramsMismatch := satAdd k.paramsMismatch 1 }
       else if b.present.getLsbD s.own.val = false then
         (if s.present s.own then u.enterSuspect .omitted else u)
       else if b.digest = tableDigest s.claims.table then u
       else if c.header.sender.val < s.own.val then differs.enterSuspect .digest else differs))) ∧
  (∀ (s : State) (levels : List Level) (c : Cell),
     s.listens = true → s.membership.state = .member ∨ s.membership.state = .suspect →
     (judgeLevels levels).cls = .heard c → c.header.sender ≠ s.own →
     s.isCurrent .hello c = true → s.present c.header.sender = false →
     s.paramsMatch (helloOf c.payload) = true →
     exec (.cellEnd levels) s = .next (State.settleAttempts
       ((s.afterLink (judgeLevels levels)).setRoster c.header.sender ⟨true, 0, true, c.header.sequence⟩))) ∧
  (∀ (s : State) (levels : List Level) (c : Cell),
     s.listens = true → (judgeLevels levels).cls = .heard c → c.header.sender ≠ s.own → s.isCurrent .hello c = true →
     (s.membership.state = .suspect ∧ s.present c.header.sender = true) ∨
       ((s.membership.state = .member ∨ s.membership.state = .suspect) ∧ s.present c.header.sender = false ∧
         s.paramsMatch (helloOf c.payload) = false) →
     let u := (s.afterLink (judgeLevels levels)).recorded c.header
     exec (.cellEnd levels) s = .next (State.settleAttempts (
       if s.paramsMatch (helloOf c.payload) then u
       else u.count fun k => { k with paramsMismatch := satAdd k.paramsMismatch 1 }))) ∧
  ∀ (s : State) (levels : List Level) (f : Flight),
    s.ends f .matched = true → (judgeLevels levels).cls ≠ .damaged → s.membership.state = .member →
    s.isCurrent .hello f.cell = true → f.cell.header.sender = s.own →
    let u := (s.afterOwn f).recorded f.cell.header
    exec (.cellEnd levels) s = .next (State.settleAttempts (
      if s.present s.own then u
      else (u.setRoster s.own { u.rosterAt s.own with present := true, age := 0 }).serveClaims))

/-- R88: a QUERY of another station at a MEMBER is answered: its sender joins the dump-pending set and a DUMP is
queued unless one is. R87, R112: the own QUERY heard in SYNCING or SUSPECT leaves the queue and starts the query
timer. R91, R87, R112: a heard DUMP that does not name the station, at a MEMBER, another station's in sequence or the
own one: the requesters it names leave the dump-pending set, and when that empties the set a queued DUMP is withdrawn
with its number returned. The own DUMP counts as sent. The attempt count is settled at the event's end (log entry 25).
-/
def Obligations.QueriesAndDumpsAreHeard : Prop :=
  (∀ (s : State) (levels : List Level) (c : Cell),
     s.listens = true → s.membership.state = .member → (judgeLevels levels).cls = .heard c → c.header.sender ≠ s.own →
     Kind.ofCode c.header.kind = some .query → malformed c = false → s.inSequence c.header = true →
     let u := (s.afterLink (judgeLevels levels)).recorded c.header
     exec (.cellEnd levels) s = .next (State.settleAttempts { u with
       recovery := { s.recovery with
         dumpPending := stationOrder.filter fun i => i = c.header.sender ∨ i ∈ s.recovery.dumpPending }
       queue := if s.queue.any (fun d => d.kind = .dump) then s.queue else s.queue ++ [⟨.dump, none, false⟩] })) ∧
  (∀ (s : State) (levels : List Level) (f : Flight),
     s.ends f .matched = true → (judgeLevels levels).cls ≠ .damaged →
     Kind.ofCode f.cell.header.kind = some .query → malformed f.cell = false →
     let u := s.afterOwn f
     (s.membership.state = .syncing → exec (.cellEnd levels) s = .next (State.settleAttempts { u with
       frame := { s.frame with lastHeard := f.cell.header.frame }
       recovery := { s.recovery with timerRunning := true } })) ∧
     (s.membership.state = .suspect → exec (.cellEnd levels) s = .next (State.settleAttempts { u.recorded f.cell.header with
       recovery := { s.recovery with timerRunning := true } }))) ∧
  ∀ (s : State) (levels : List Level) (f : Flight),
    let served (u : State) (d : DumpBody) : State :=
      let rest := s.recovery.dumpPending.filter fun i => !d.names i
      let mine (x : QueuedCell) : Bool := rest.isEmpty && x.kind == .dump && !x.inFlight
      { u with
        recovery := { s.recovery with dumpPending := rest }
        queue := u.queue.filter fun x => !mine x
        membership := { u.membership with
          sequence := s.membership.sequence - BitVec.ofNat 8 (u.queue.countP fun x => mine x && x.given.isSome) } }
    (∀ c ∈ (match (judgeLevels levels).cls with
        | .heard c => some c
        | _ => none), ∀ d ∈ dumpOf c.payload,
      s.listens = true → s.membership.state = .member → c.header.sender ≠ s.own → s.inSequence c.header = true →
      Kind.ofCode c.header.kind = some .dump → d.names s.own = false →
      exec (.cellEnd levels) s = .next (State.settleAttempts
        (served ((s.afterLink (judgeLevels levels)).recorded c.header) d))) ∧
    ∀ d ∈ dumpOf f.cell.payload,
      s.ends f .matched = true → (judgeLevels levels).cls ≠ .damaged → s.membership.state = .member →
      Kind.ofCode f.cell.header.kind = some .dump → d.names s.own = false →
      exec (.cellEnd levels) s = .next (State.settleAttempts
        ((served ((s.afterOwn f).recorded f.cell.header) d).count fun k => { k with dumpsSent := satAdd k.dumpsSent 1 }))

/-- R92: a heard DUMP that names the station is installed at a SYNCING or SUSPECT station, and a MEMBER that it names
reinstalls it, after R91 at the MEMBER (the attempt count is settled at the event's end, log entry 25). R93, R94, R95,
R96: what an install, a MEMBER's reinstall too, makes of the plan and the capture side. The plan becomes the DUMP's,
own entries take the slots' crop origins, the sender's header is recorded, the timers and the recovery unit are set,
the store and the contexts keep what the installed frame still waits for, and the station is MEMBER. -/
def Obligations.NamedDumpIsInstalled : Prop :=
  (∀ (s : State) (levels : List Level) (c : Cell) (d : DumpBody),
     s.listens = true → (judgeLevels levels).cls = .heard c → c.header.sender ≠ s.own →
     Kind.ofCode c.header.kind = some .dump → dumpOf c.payload = some d → d.names s.own = true →
     let u := s.afterLink (judgeLevels levels)
     (s.membership.state = .syncing →
       exec (.cellEnd levels) s = .next (State.settleAttempts
         (State.install { u with frame := { s.frame with lastHeard := c.header.frame } } c.header d))) ∧
     (s.membership.state = .suspect →
       exec (.cellEnd levels) s = .next (State.settleAttempts ((u.recorded c.header).install c.header d))) ∧
     (s.membership.state = .member →
       exec (.cellEnd levels) s = .next (State.settleAttempts
         (((u.recorded c.header).requestersServed d).install c.header d)))) ∧
  ∀ (s : State) (h : Header) (d : DumpBody),
    let t := s.install h d
    let mine (n : SlotNo) : Bool :=
      d.entries.any (fun e => e.owner == s.own && e.slot == n &&
        (d.entries.find? fun x => x.owner == s.own && x.slot == n) == some e && e.state != .pending)
    let due (n : SlotNo) : Bool := mine n && t.frame.outstanding.contains ⟨s.own, n⟩
    t.claims.table = d.entries.map (fun e =>
      if e.owner = s.own then { e with localPart := some ⟨(s.slotAt e.slot).crop, e.slot⟩ } else e) ∧
    t.claims.removalMark = true ∧
    t.frame = { s.frame with number := h.frame, timerRunning := true, outstanding := t.frame.outstanding } ∧
    (∀ k ∈ allKeys, t.frame.outstanding.contains k =
      (List.range d.entries.length).any fun i => d.outstanding.getLsbD i && (d.entries[i]?.map Entry.key) == some k) ∧
    (∀ i, t.rosterAt i =
      let e := d.roster[i]
      let e := if e.present = true ∧ e.age < s.rosterTimeout then e else ⟨false, 0, false, e.sequence⟩
      if i = h.sender then { e with heard := e.heard || e.present, sequence := h.sequence } else e) ∧
    t.membership.state = .member ∧ t.membership.silence = s.membership.silence ∧
    t.recovery = { s.recovery with timerRunning := false, attempts := 0 } ∧
    t.store = s.store.filter (fun e => e.frame == h.frame && due e.slot) ∧
    (∀ n, t.contextAt n =
      if due n then (if (s.contextAt n).frame? = some h.frame then s.contextAt n else .armed h.frame) else .idle) ∧
    t.capture.inFrame = s.capture.inFrame ∧ t.capture.rowCounter = s.capture.rowCounter ∧
    t.link = s.link ∧ t.ladder = s.ladder ∧ t.strap = s.strap ∧ t.port.reply = s.port.reply ∧
    t.port.counters = { s.port.counters with dumpsInstalled := satAdd s.port.counters.dumpsInstalled 1 }

/-- R95, R96, R70, R19, R20, R25: what an install makes of the slots, the queue, the own sequence counter and the
notices. A QUERY leaves the queue, at a MEMBER's reinstall every cell of the plan, each given number returned; the
slots are as R95's table has them, OFF slots with the start-on mark are started (R19), and every WANTED slot is
PROPOSED with its CLAIM queued, since a HELLO waits; the notices come in R96's order, a reinstall depositing no STATE
notice. No queued cell is on the link then; the queue of a station that is not MEMBER holds no cell of the plan
(R167). -/
def Obligations.InstallRederivesTheSlots : Prop :=
  ∀ (s : State) (h : Header) (d : DumpBody),
    let reinstall : Bool := s.membership.state == .member
    let leaves (c : QueuedCell) : Bool := match c.kind with
      | .query => true
      | .dump => false
      | .bye => false
      | _ => reinstall
    (∀ c ∈ s.queue, c.inFlight = false ∧ (leaves c = true ∨ c.kind = .dump ∨ c.kind = .bye)) →
    let t := s.install h d
    let entry (n : SlotNo) := (d.entries.find? fun e => e.owner == s.own && e.slot == n).map Entry.state
    let rederived (n : SlotNo) : SlotState := match entry n, (s.slotAt n).state with
      | some .releasing, _ => .dropping
      | some _, .dropping => .dropping
      | some _, .off => if (s.slotAt n).startOn then .active else .dropping
      | some _, _ => .active
      | none, .dropping => .off
      | none, .proposed => .wanted
      | none, .active => .wanted
      | none, other => other
    let starts (n : SlotNo) : Bool := rederived n == .off && (s.slotAt n).startOn
    let state (n : SlotNo) : SlotState := if starts n ∨ rederived n = .wanted then .proposed else rederived n
    let changed := slotOrder.filter fun n => rederived n != (s.slotAt n).state
    let u := s.depositAll ((changed.map fun n => Notice.slot n (rederived n) .install) ++
      ((slotOrder.filter starts).map fun n => Notice.slot n .wanted .start) ++
      (if reinstall then [] else [.state .member .install]) ++ [.recovery .installed])
    (∀ n, t.slotAt n = { s.slotAt n with state := state n, startOn := false, offAfter := false }) ∧
    t.queue = (s.queue.filter fun c => !leaves c) ++ [⟨.hello, none, false⟩] ++
      ((slotOrder.filter fun n => state n == .proposed).map fun n => ⟨.claim n, none, false⟩) ++
      ((slotOrder.filter fun n => state n == .dropping && entry n != some .releasing).map fun n =>
        ⟨.release n, none, false⟩) ∧
    t.membership.sequence =
      s.membership.sequence - BitVec.ofNat 8 (s.queue.countP fun c => leaves c && c.given.isSome) ∧
    t.port.notices = u.port.notices ∧ t.port.noticesLost = u.port.noticesLost

/-- R7 to R10: the checks a CLAIM is put to, in their order, on unbounded integers. R18, with R8 and R9: when a slot's
contents pass the local checks. -/
def Obligations.ClaimChecksInOrder : Prop :=
  (∀ (s : State) (sender : Station) (b : ClaimBody),
     let r := b.region
     let cols := r.cols.toNat
     let table := s.claims.table
     s.judgeClaim sender b =
       ([(decide ((s.rosterAt sender).present = false), ClaimRefusal.notMember),
         (decide (3 < b.slot.toNat ∨ 3 < b.format.toNat ∨ cols < 16 ∨ cols % 16 ≠ 0 ∨ r.col0.toNat % 16 ≠ 0 ∨
             r.rows.toNat = 0 ∨ strapWidth s.strap.words < r.col0.toNat + cols ∨
             strapHeight s.strap.words < r.row0.toNat + r.rows.toNat), .range),
         (decide (4096 < [2, 3, 4, 6].getD (b.format.toNat % 4) 0 * cols), .width),
         (table.any (fun e => e.owner = sender ∧ e.slot.val = b.slot.toNat % 4), .duplicate),
         (decide (32 ≤ table.length), .full),
         (table.any (fun e => regionsOverlap e.region r), .overlap)].find? Prod.fst).map Prod.snd ∧
     ∀ e ∈ table, (regionsOverlap e.region r = true ↔
       ∃ row col : Nat, e.region.row0.toNat ≤ row ∧ row < e.region.row0.toNat + e.region.rows.toNat ∧
         r.row0.toNat ≤ row ∧ row < r.row0.toNat + r.rows.toNat ∧
         e.region.col0.toNat ≤ col ∧ col < e.region.col0.toNat + e.region.cols.toNat ∧
         r.col0.toNat ≤ col ∧ col < r.col0.toNat + cols)) ∧
  ∀ (words : List Word) (n : SlotNo) (f : Format) (r : Region) (c : Crop),
    let cols := r.cols.toNat
    let rows := r.rows.toNat
    localChecks words n f r c = true ↔ (
      16 ≤ cols ∧ 16 ∣ cols ∧ 16 ∣ r.col0.toNat ∧ 0 < rows ∧
      r.col0.toNat + cols ≤ strapWidth words ∧ r.row0.toNat + rows ≤ strapHeight words ∧
      (match f with
        | .mono8 => cols ≤ 2048
        | .mono12p => cols * 3 ≤ 4096
        | .rgb565 => cols ≤ 1024
        | .rgb888 => cols * 3 ≤ 2048) ∧
      c.x.toNat + cols ≤ 4096 ∧ c.y.toNat + rows ≤ 4096 ∧
      f ∈ (match strapSensor words with
        | .color => [Format.rgb888, .rgb565, .mono8]
        | .mono => [Format.mono12p, .mono8]))

/-- R9: the packed row length is cols times the bytes per pixel, and WIDTH fails above 2,048; so the widest tile of
each format, in columns that are a multiple of 16, is the table's. -/
def Obligations.WidthCheck : Prop :=
  ∀ (f : Format) (r : Region), 16 ∣ r.cols.toNat →
    (2 * rowBytes f r.cols.toNat = r.cols.toNat * (match f with
      | .mono8 => 2
      | .mono12p => 3
      | .rgb565 => 4
      | .rgb888 => 6)) ∧
    (widthFails f r = true ↔ 2048 < rowBytes f r.cols.toNat) ∧
    (widthFails f r = true ↔ (match f with
      | .mono8 => 2048
      | .mono12p => 1360
      | .rgb565 => 1024
      | .rgb888 => 672) < r.cols.toNat)

/-- R11, R6, R22: a current CLAIM of another station, in sequence: accepted, it appends its PENDING entry without an
owner-local part; refused, it changes nothing. R11, R3, R21, R22: the own CLAIM heard at a MEMBER. Accepted, it
appends the entry with the crop origin of its transmission start, and the slot is ACTIVE, or DROPPING with its RELEASE
queued when the off-after mark is set. Refused FULL or OVERLAP, the slot is WAITING, or OFF with the mark set. For a
cause that R22 does not list the slot's state and the notice's cause are free values (log entry 20), and a slot left
WANTED is served again (R20). The attempt count is settled at the event's end (log entry 25). -/
def Obligations.ClaimIsHeard : Prop :=
  (∀ (s : State) (levels : List Level) (c : Cell),
     s.listens = true → (s.membership.state = .member ∧ s.inSequence c.header = true) ∨ s.membership.state = .suspect →
     (judgeLevels levels).cls = .heard c → c.header.sender ≠ s.own → s.isCurrent .claim c = true →
     let b := claimOf c.payload
     let u := (s.afterLink (judgeLevels levels)).recorded c.header
     exec (.cellEnd levels) s = .next (State.settleAttempts (
       if s.judgeClaim c.header.sender b = none then { u with claims := { s.claims with
         table := s.claims.table ++ [⟨c.header.sender, Fin.ofNat 4 b.slot.toNat, Format.ofBits b.format.toNat, .pending,
           b.region, none⟩] } }
       else u))) ∧
  ∀ (s : State) (levels : List Level) (f : Flight),
    s.ends f .matched = true → (judgeLevels levels).cls ≠ .damaged → s.membership.state = .member →
    s.isCurrent .claim f.cell = true →
    let h := f.cell.header
    let b := claimOf f.cell.payload
    let n : SlotNo := Fin.ofNat 4 b.slot.toNat
    let u := (s.afterOwn f).recorded h
    let sl := s.slotAt n
    let put (u : State) (st : SlotState) (why : SlotCause) : State :=
      (u.setSlot n { sl with state := st, offAfter := false }).deposit (.slot n st why)
    let grown := { u with claims := { s.claims with
      table := s.claims.table ++ [⟨h.sender, n, Format.ofBits b.format.toNat, .pending, b.region, some ⟨f.crop, n⟩⟩] } }
    exec (.cellEnd levels) s = .next (State.settleAttempts (
      match u.judgeClaim h.sender b with
      | none =>
        if sl.offAfter then
          let t := put grown .dropping .accepted
          { t with queue := (u.enqueue (.release n)).queue }
        else put grown .active .accepted
      | some .full => put u (if sl.offAfter then .off else .waiting .full) .full
      | some .overlap => put u (if sl.offAfter then .off else .waiting .overlap) .overlap
      | some _ =>
        State.serveClaims { put u (refusedState (Config.refusedSlot s.free)) (.unlisted (Config.refusedCauseCode s.free)) with
          free := s.free + 1 }))

/-- R12, R6: a current RELEASE of another station, in sequence: a PENDING entry of its key leaves and sets the removal
mark, a HELD one becomes RELEASING, and otherwise nothing of the table changes. R25, R12: the own RELEASE heard at a
MEMBER: the slot, DROPPING, becomes OFF when its entry was PENDING or is gone, and stays DROPPING when the entry was
HELD or already RELEASING. The attempt count is settled at the event's end (log entry 25). -/
def Obligations.ReleaseIsHeard : Prop :=
  (∀ (s : State) (levels : List Level) (c : Cell),
     s.listens = true → (s.membership.state = .member ∧ s.inSequence c.header = true) ∨ s.membership.state = .suspect →
     (judgeLevels levels).cls = .heard c → c.header.sender ≠ s.own → s.isCurrent .release c = true →
     let slot := (c.payload.getD 0 0).toNat
     let u := (s.afterLink (judgeLevels levels)).recorded c.header
     let hit (e : Entry) : Bool := e.owner == c.header.sender && e.slot.val == slot
     exec (.cellEnd levels) s = .next (State.settleAttempts (
       match (s.claims.table.find? hit).map Entry.state with
       | some .pending => { u with claims := { s.claims with
           table := s.claims.table.filter (fun e => !hit e), removalMark := true } }
       | some .held => { u with claims := { s.claims with
           table := s.claims.table.map fun e => if hit e then { e with state := .releasing } else e } }
       | _ => u))) ∧
  ∀ (s : State) (levels : List Level) (f : Flight) (n : SlotNo),
    s.ends f .matched = true → (judgeLevels levels).cls ≠ .damaged → s.membership.state = .member →
    s.isCurrent .release f.cell = true → f.cell.payload = [BitVec.ofNat 8 n.val] → f.cell.header.sender = s.own →
    (s.slotAt n).state = .dropping →
    let u := (s.afterOwn f).recorded f.cell.header
    let hit (e : Entry) : Bool := e.owner == s.own && e.slot == n
    let off := (u.setSlotState n .off).deposit (.slot n .off .released)
    exec (.cellEnd levels) s = .next (State.settleAttempts (
      match (s.claims.table.find? hit).map Entry.state with
      | none => off
      | some .pending => { off with claims := { off.claims with
          table := s.claims.table.filter (fun e => !hit e), removalMark := true } }
      | some .held => { u with claims := { s.claims with
          table := s.claims.table.map fun e => if hit e then { e with state := .releasing } else e } }
      | some .releasing => u))

/-- R39, R40: a current TILE, another station's, heard or header-heard, or the own one heard (R112, R158: it leaves
the store, the attempt count is 0, the ladder's rank 15). With LAST it takes its outstanding key out of the set, and
the frame closes when that empties it; a TILE without LAST, or without an outstanding key, changes no frame-owned
state. The attempt count is settled at the event's end (log entry 25). -/
def Obligations.TileCompletesItsTile : Prop :=
  (∀ (s : State) (levels : List Level) (h : Header),
     s.listens = true → s.membership.state = .member ∨ s.membership.state = .suspect →
     (judgeLevels levels).cls.header? = some h → h.sender ≠ s.own → Kind.ofCode h.kind = some .tile →
     h.frame = s.frame.number →
     let u := (s.afterLink (judgeLevels levels)).recorded h
     let key : TileKey := ⟨h.sender, Fin.ofNat 4 (h.aux.toNat % 4)⟩
     let rest := s.frame.outstanding.filter fun k => k ≠ key
     let t := { u with frame := { s.frame with outstanding := rest } }
     exec (.cellEnd levels) s = .next (State.settleAttempts (
       if h.flags.getLsbD 0 = true ∧ key ∈ s.frame.outstanding then (if rest = [] then t.closeFrame .last else t) else u))) ∧
  ∀ (s : State) (levels : List Level) (f : Flight),
    s.ends f .matched = true → (judgeLevels levels).cls ≠ .damaged → f.source = .store →
    s.membership.state = .member ∨ s.membership.state = .suspect → f.cell.header.sender = s.own →
    Kind.ofCode f.cell.header.kind = some .tile → f.cell.header.frame = s.frame.number →
    let h := f.cell.header
    let u := { (s.afterLink (.heardGood f.cell)).recorded h with
      link := { s.link with busy := false, flight := none, lastSender := some s.own }
      ladder := ⟨.running none, 15, 0⟩
      store := s.store.drop 1 }
    let key : TileKey := ⟨h.sender, Fin.ofNat 4 (h.aux.toNat % 4)⟩
    let rest := s.frame.outstanding.filter fun k => k ≠ key
    let t := { u with frame := { s.frame with outstanding := rest } }
    exec (.cellEnd levels) s = .next (State.settleAttempts (
      if h.flags.getLsbD 0 = true ∧ key ∈ s.frame.outstanding then (if rest = [] then t.closeFrame .last else t) else u))

/-- R42: a heard CLOSE of the current frame closes it whatever the outstanding set holds, another station's (in
sequence at a MEMBER) or the own one. The attempt count is settled at the event's end (log entry 25). -/
def Obligations.CloseClosesTheFrame : Prop :=
  ∀ (s : State) (levels : List Level),
    (∀ c ∈ (match (judgeLevels levels).cls with
        | .heard c => some c
        | _ => none),
      s.listens = true → (s.membership.state = .member ∧ s.inSequence c.header = true) ∨ s.membership.state = .suspect →
      c.header.sender ≠ s.own → s.isCurrent .close c = true →
      exec (.cellEnd levels) s = .next (State.settleAttempts
        (((s.afterLink (judgeLevels levels)).recorded c.header).closeFrame .close))) ∧
    ∀ f ∈ s.link.flight, s.ends f .matched = true → (judgeLevels levels).cls ≠ .damaged → s.membership.state = .member →
      s.isCurrent .close f.cell = true →
      exec (.cellEnd levels) s = .next (State.settleAttempts (((s.afterOwn f).recorded f.cell.header).closeFrame .close))

/-- R13, R41, R73, R74: a current BYE. It takes its sender's PENDING entries out of the table, turns the others
RELEASING, and takes the sender's keys out of the outstanding set; the frame closes when that empties the set. Another
station's BYE leaves its sender PRESENT, due to age out at the next close; the own BYE leads to LEFT (the close first,
log entry 24). The attempt count is settled at the event's end (log entry 25). -/
def Obligations.ByeLeaves : Prop :=
  ∀ (s : State) (levels : List Level),
    let effect (u : State) (x : Station) : State :=
      let gone := s.claims.table.any fun e => e.owner = x ∧ e.state = .pending
      { u with
        claims := { s.claims with
          table := (s.claims.table.filter fun e => ¬ (e.owner = x ∧ e.state = .pending)).map fun e =>
            if e.owner = x then { e with state := .releasing } else e
          removalMark := s.claims.removalMark || gone }
        frame := { s.frame with outstanding := s.frame.outstanding.filter fun k => k.owner ≠ x } }
    let emptied (x : Station) : Bool :=
      s.frame.outstanding.any (fun k => k.owner = x) && s.frame.outstanding.all fun k => k.owner = x
    (∀ c ∈ (match (judgeLevels levels).cls with
        | .heard c => some c
        | _ => none),
      s.listens = true → (s.membership.state = .member ∧ s.inSequence c.header = true) ∨ s.membership.state = .suspect →
      c.header.sender ≠ s.own → s.isCurrent .bye c = true →
      let x := c.header.sender
      let u := (s.afterLink (judgeLevels levels)).recorded c.header
      let t := effect (if s.present x then u.setRoster x ⟨true, s.rosterTimeout - 1, false, c.header.sequence⟩ else u) x
      exec (.cellEnd levels) s = .next (State.settleAttempts (if emptied x then t.closeFrame .bye else t))) ∧
    ∀ f ∈ s.link.flight, s.ends f .matched = true → (judgeLevels levels).cls ≠ .damaged → s.membership.state = .member →
      f.cell.header.sender = s.own → s.isCurrent .bye f.cell = true →
      let t := effect ((s.afterOwn f).recorded f.cell.header) s.own
      let t := if emptied s.own then t.closeFrame .bye else t
      exec (.cellEnd levels) s = .next { t with
        store := []
        queue := []
        capture := { t.capture with contexts := tab4 fun _ => .idle }
        claims := ⟨[], false, tab4 fun n => { t.slotAt n with state := .off, startOn := false, offAfter := false }⟩
        frame := ⟨0, [], false, 0⟩
        membership := { t.membership with
          state := .left, roster := tab16 fun _ => ⟨false, 0, false, 0⟩, silence := .stopped }
        recovery := ⟨false, 0, []⟩
        ladder := { t.ladder with attempts := 0 }
        port := (t.deposit (.state .left .bye)).port }

/-- R113, R159, R164, R129, R112: the own cell ended by an abort, or damaged after its last bit. It stays where it was
with its in-flight mark clear, L is UNKNOWN, aborted is counted, a readback mismatch counts a collision, and the
attempt count rises by 1; at 4 the station enters MUTED(COLLISION), every slot and number as it was (log entry 34).
R23: a CLAIM whose slot's off-after mark is set is withdrawn, its number returned, and the slot is OFF with its
WITHDRAWN notice. R20: behind an aborted control cell of a MEMBER, whose HELLO waits again or whose own entry is
PRESENT, every WANTED slot is PROPOSED with its CLAIM queued (log entry 17). The attempt count is settled at the
event's end (log entry 25). -/
def Obligations.OwnCellIsAborted : Prop :=
  ∀ (s : State) (levels : List Level) (f : Flight),
    s.ends f .mismatched = true ∨ (s.ends f .matched = true ∧ judgeLevels levels = ⟨.damaged, some .aborted, false⟩) →
    s.isMuted = false →
    let k := s.port.counters
    let base : State := { s with
      link := { s.link with busy := false, lastSender := none, flight := none }
      queue := s.queue.map fun c => { c with inFlight := false }
      store := s.store.map fun e => { e with inFlight := false }
      membership := { s.membership with
        silence := if s.membership.state = .listen then .running else s.membership.silence }
      ladder := ⟨.running none, s.own, s.ladder.attempts + 1⟩
      port := { s.port with counters := { k with
        aborted := satAdd k.aborted 1
        collisions := if f.report = .mismatched then satAdd k.collisions 1 else k.collisions } } }
    let off (n : SlotNo) : Bool := f.source == .queue (.claim n) && (s.slotAt n).offAfter
    let leaves (c : QueuedCell) : Bool := slotOrder.any fun n => off n && c.kind == .claim n
    let serves (n : SlotNo) : Bool := f.source != .store && s.membership.state == .member && !off n &&
      (s.slotAt n).state == .wanted && (s.present s.own || s.queue.any fun c => c.kind == .hello)
    let claims := slotOrder.filter fun n => serves n && !s.queue.any fun c => c.kind == .claim n || c.kind == .release n
    let slot (n : SlotNo) : Slot :=
      if off n then { s.slotAt n with state := .off, offAfter := false }
      else if serves n then { s.slotAt n with state := .proposed }
      else s.slotAt n
    exec (.cellEnd levels) s = .next (
      if 3 ≤ s.ladder.attempts then base.enterMuted .collision .collision
      else State.settleAttempts { base with
        queue := (base.queue.filter fun c => !leaves c) ++ claims.map fun n => ⟨.claim n, none, false⟩
        membership := { base.membership with
          sequence := s.membership.sequence - BitVec.ofNat 8 (s.queue.countP fun c => leaves c && c.given.isSome) }
        claims := { s.claims with slots := tab4 slot }
        port := (base.depositAll ((slotOrder.filter off).map fun n => Notice.slot n .off .withdrawn)).port })

/-! ### Closing a frame, and what no other event does -/

/-- R63, R15: at every close the roster is aged: a PRESENT entry other than the own one goes back to age 0 when it was
heard in the frame and rises by 1 otherwise, and is ABSENT with age 0 once the age reaches the roster timeout. Every
flag is then clear, entries of an owner that became ABSENT leave the table, and ages stay below the timeout. -/
def Obligations.RosterAgesAtAClose : Prop :=
  ∀ (s : State) (cause : CloseCause) (i : Station),
    let t := s.closeFrame cause
    let e := s.rosterAt i
    let age := if e.heard then 0 else e.age + 1
    t.rosterAt i = (
      if e.present = true ∧ i ≠ s.own then
        (if s.rosterTimeout ≤ age then { e with present := false, age := 0, heard := false }
          else { e with age := age, heard := false })
      else { e with heard := false }) ∧
    (s.present i = true ∧ t.present i = false → ∀ x ∈ t.claims.table, x.owner ≠ i) ∧
    ((e.present = true → e.age < s.rosterTimeout) → t.present i = true → (t.rosterAt i).age < t.rosterTimeout)

/-- R15, R31 to R33, R44, R136, R146, R147, R160: what a close and the open on the same cell make of the plan and of
the capture side. RELEASING entries and those of owners just ABSENT leave, PENDING ones become HELD; the frame number
advances, the outstanding set is the HELD entries' keys, the timer runs in MEMBER only; every context is ARMED for an
outstanding own tile and IDLE otherwise; the store loses the tiles of removed entries and, with cause CLOSE, the tiles
of the closed frame, each unfinished tile being counted as cut and noticed behind the slots' notices (the order is the
model's, log entries 14 and 15). -/
def Obligations.CloseOpensTheNextFrame : Prop :=
  ∀ (s : State) (cause : CloseCause),
    let t := s.closeFrame cause
    let leaves (e : Entry) : Bool := e.state == .releasing || (s.present e.owner && !t.present e.owner)
    let unfinished (n : SlotNo) : Bool :=
      s.contextAt n == .armed s.frame.number || (match s.contextAt n with
        | .capturing f _ _ => f == s.frame.number
        | _ => false) || s.store.any fun e => e.slot == n && e.frame == s.frame.number
    let removed := s.claims.removalMark || s.claims.table.any leaves
    let passed (n : SlotNo) : Option Notice := match (s.slotAt n).state with
      | .dropping => if s.claims.table.any (fun e => leaves e && e.key == s.ownKey n)
          then some (.slot n .off .released) else none
      | .waiting _ => if removed then some (.slot n .wanted .retry) else none
      | _ => none
    let cuts := if cause = .close then (slotOrder.filter unfinished).map fun n => Notice.cut n s.frame.number else []
    let u := s.depositAll (slotOrder.filterMap passed ++ cuts)
    t.claims.table = (s.claims.table.filter fun e => !leaves e).map (fun e =>
      if e.state = .pending then { e with state := .held } else e) ∧
    t.claims.removalMark = false ∧ t.port.notices = u.port.notices ∧ t.port.noticesLost = u.port.noticesLost ∧
    t.frame.number.toNat = (s.frame.number.toNat + 1) % 65536 ∧ t.frame.lastHeard = s.frame.lastHeard ∧
    t.frame.timerRunning = decide (s.membership.state = .member) ∧
    (∀ k ∈ allKeys, t.frame.outstanding.contains k = t.claims.table.any fun e => e.key == k && e.state == .held) ∧
    (∀ n, t.contextAt n = if t.frame.outstanding.contains ⟨s.own, n⟩ then .armed t.frame.number else .idle) ∧
    t.store = s.store.filter (fun e =>
      !(s.claims.table.any fun x => leaves x && x.owner == s.own && x.slot == e.slot) &&
      !(cause = .close && e.frame == s.frame.number)) ∧
    t.port.counters = (if cause = .close
      then { s.port.counters with tilesCut := satAdd s.port.counters.tilesCut (slotOrder.countP unfinished) }
      else s.port.counters) ∧
    t.membership.state = s.membership.state ∧ t.membership.silence = s.membership.silence ∧
    t.link = s.link ∧ t.ladder = s.ladder ∧ t.strap = s.strap ∧ t.recovery = s.recovery ∧
    t.capture.inFrame = s.capture.inFrame ∧ t.capture.rowCounter = s.capture.rowCounter ∧
    t.port.reply = s.port.reply

/-- R15, R20, R24, R25, R48, R66, R70: what a close makes of the slots, the queue and the own sequence counter, no
queued cell being on the link. A DROPPING slot whose entry left is OFF; a WAITING slot is WANTED when an entry has
left; and at a MEMBER a WANTED slot is PROPOSED once its own entry is PRESENT or a HELLO waits. A CLOSE for the closed
frame leaves the queue, its given number returned; behind the rest come the RELEASEs of DROPPING slots with an entry,
the CLAIMs of PROPOSED slots, and the scheduled HELLO, which stands ahead of the CLAIMs when they wait for it (log
entry 18). A slot queues no second cell beside one of its own; where none stands, its CLAIM or its RELEASE is queued.
-/
def Obligations.CloseServesTheSlots : Prop :=
  ∀ (s : State) (cause : CloseCause), s.queue.all (fun c => !c.inFlight) →
    let t := s.closeFrame cause
    let leaves (e : Entry) : Bool := e.state == .releasing || (s.present e.owner && !t.present e.owner)
    let removed := s.claims.removalMark || s.claims.table.any leaves
    let interval := strapHelloInterval s.strap.words
    let member := s.membership.state == .member
    let scheduled := member && t.frame.number.toNat % interval == s.own.val % interval
    let hello := s.queue.any fun c => c.kind == .hello
    let ready := s.present s.own || hello
    let waked (n : SlotNo) : SlotState := match (s.slotAt n).state with
      | .dropping => if s.claims.table.any (fun e => e.key == s.ownKey n && leaves e) then .off else .dropping
      | .waiting why => if removed then .wanted else .waiting why
      | other => other
    let proposes (n : SlotNo) : Bool := waked n == .wanted && member && (ready || scheduled)
    let gives (n : SlotNo) : Bool := waked n == .dropping && member && t.claims.table.any fun e => e.key == s.ownKey n
    let free (n : SlotNo) : Bool := !s.queue.any fun c => c.kind == .claim n || c.kind == .release n
    let claims := (slotOrder.filter fun n => proposes n && free n).map fun n => (⟨.claim n, none, false⟩ : QueuedCell)
    let releases := (slotOrder.filter fun n => gives n && free n).map fun n => (⟨.release n, none, false⟩ : QueuedCell)
    let closed (c : QueuedCell) : Bool := c.kind == .close s.frame.number
    (∀ n, t.slotAt n = { s.slotAt n with state := if proposes n then .proposed else waked n }) ∧
    t.queue = (s.queue.filter fun c => !closed c) ++ releases ++ (if ready then claims else []) ++
      (if scheduled && !hello then [⟨.hello, none, false⟩] else []) ++ (if ready then [] else claims) ∧
    t.membership.sequence =
      s.membership.sequence - BitVec.ofNat 8 (s.queue.countP fun c => closed c && c.given.isSome) ∧
    ∀ n, free n = true →
      (proposes n = true → ⟨.claim n, none, false⟩ ∈ t.queue) ∧ (gives n = true → ⟨.release n, none, false⟩ ∈ t.queue)

/-- R65, R19, R20, R25: what an entry into MEMBER queues, from a queue without a cell of the plan: a HELLO, then the
CLAIMs of the slots that are WANTED or started by their mark, then the RELEASEs of DROPPING slots whose entry is
PENDING or HELD, each in slot order. Every start-on mark is cleared. -/
def Obligations.MemberEntryQueuesItsCells : Prop :=
  ∀ (s : State), s.membership.state = .member →
    s.queue.all (fun c => c.kind = .query ∨ c.kind = .dump ∨ c.kind = .bye) →
    let starts (n : SlotNo) : Bool := (s.slotAt n).startOn && (s.slotAt n).state == .off
    let claims (n : SlotNo) : Bool := starts n || (s.slotAt n).state == .wanted
    let gives (n : SlotNo) : Bool := (s.slotAt n).state == .dropping &&
      (s.claims.table.find? fun e => e.owner == s.own && e.slot == n).any fun e => e.state != .releasing
    let cell (k : QueueKind) : QueuedCell := ⟨k, none, false⟩
    s.memberCells = { s with
      queue := s.queue ++ [cell .hello] ++ ((slotOrder.filter claims).map fun n => cell (.claim n)) ++
        (slotOrder.filter gives).map fun n => cell (.release n)
      claims := { s.claims with slots := tab4 fun n =>
        { s.slotAt n with state := if claims n then .proposed else (s.slotAt n).state, startOn := false } }
      port := (s.depositAll ((slotOrder.filter starts).map fun n => Notice.slot n .wanted .start)).port }

/-- R1, R16, R31, R107, R119, R111, R121: the table, the frame number, L and the rank change only where their rules
say. Apart from a cell's end, the table only ever becomes empty, at a reset, at a REJOIN in LEFT (its own window or a
request window that spells it) and at the SYNCING fallback; the frame number becomes 0 at that reset or REJOIN, and at
the fallback the last heard frame; L becomes UNKNOWN at a reset; the rank is computed where a grid starts. A
transmission starts only at a slot of the station's rank on an idle link. -/
def Obligations.ThePlanChangesOnlyWhereItsRulesSay : Prop :=
  ∀ (c : Instr) (s t : State), exec c s = .next t →
    ((∀ levels, c ≠ .cellEnd levels) →
      let rejoins := s.membership.state = .left ∧
        (c = .rejoin [] ∨ ∃ bytes, c = .requestWindow bytes ∧ decodeWindowBytes bytes = some (.rejoin []))
      let fallsBack := s.membership.state = .syncing ∧ c = .queryTimerExpiry
      (t.claims.table = s.claims.table ∨
        (t.claims.table = [] ∧ (s.resetBy c ≠ none ∨ rejoins ∨ fallsBack))) ∧
      (t.frame.number = s.frame.number ∨ (t.frame.number = 0 ∧ (s.resetBy c ≠ none ∨ rejoins)) ∨
        (fallsBack ∧ t.frame.number = s.frame.lastHeard)) ∧
      (t.link.lastSender = s.link.lastSender ∨ (s.resetBy c ≠ none ∧ t.link.lastSender = none)) ∧
      (t.ladder.rank = s.ladder.rank ∨ s.resetBy c ≠ none ∨ ∃ read, c = .strapAttemptEnd read)) ∧
    (s.link.transmitter = .idle → t.link.transmitter ≠ .idle →
      ∃ j, c = .slotStart j ∧ j % 16 = s.ladder.rank.val ∧ s.link.busy = false ∧ s.ladder.grid ≠ .stopped ∧
        s.contends = true ∧ t.link.transmitter = .sending)

/-- R119, R125: the rank at a grid's start is the distance behind L, and with L UNKNOWN the own number; so stations
that hold the same L and different numbers hold different ranks. R117, R33, R57, R78: the time base and the lengths of
the timers, from the words of the image. R128, R120: at the end of an event the attempt count is kept while the
station has a cell it may send, and in MUTED; otherwise it is 0 (judged once an event, log entry 25). -/
def Obligations.RankAndAttemptCount : Prop :=
  ((∀ own x : Station, (rankOf own (some x)).val = (own.val + 31 - x.val) % 16) ∧
   (∀ own : Station, rankOf own none = own) ∧
   (∀ x : Station, rankOf (x + 1) (some x) = 0 ∧ (rankOf x (some x)).val = 15) ∧
   (∀ (l : Option Station) (a b : Station), rankOf a l = rankOf b l → a = b) ∧
   ∀ (s : State),
     let w (k : Nat) : Nat := (s.strap.words.getD k 0).toNat
     s.gapUnitPeriods = 32 * w 2 ∧ s.frameTimerLength = 1024 * w 3 ∧ s.queryTimerLength = 2048 * w 3 ∧
     s.silenceTimerLength = w 4) ∧
  ∀ (s : State), s.settleAttempts = { s with ladder := { s.ladder with attempts :=
    match s.membership.state with
    | .muted _ => s.ladder.attempts
    | .member => if s.queue = [] ∧ s.store = [] then 0 else s.ladder.attempts
    | .syncing => if s.queue.any (fun c => c.kind = .query) then s.ladder.attempts else 0
    | .suspect => if s.queue.any (fun c => c.kind = .query) then s.ladder.attempts else 0
    | _ => 0 } }

/-- R77: MUTED is left by a reset only, and what R77 freezes stays as it was: the table, its mark and the slots, the
roster, the frame number and the outstanding set, the own sequence, and both attempt counts. The premises hold of
every state a run reaches (they are invariants stated below). -/
def Obligations.MutedIsFrozenUntilAReset : Prop :=
  ∀ (c : Instr) (s t : State), s.silentEmpty = true → s.timersLawful = true → s.isMuted = true →
    s.resetBy c = none → exec c s = .next t →
    t.membership = s.membership ∧ t.claims = s.claims ∧ t.frame = s.frame ∧ t.recovery = s.recovery ∧
    t.ladder.attempts = s.ladder.attempts ∧ t.queue = [] ∧ t.store = [] ∧ t.link.transmitter = .idle ∧
    t.link.flight = none ∧ t.capture.contexts = s.capture.contexts ∧ t.strap = s.strap

/-! ### Timers -/

/-- R59: a running silence timer that expires in LISTEN founds a group: MEMBER with the FOUNDED notice, the frame
timer running, and the cells of an entry into MEMBER queued. In another state, or stopped or held, no expiry arises,
and nothing changes (log entry 7). R46, R47: the frame timer stops at its expiry. At a MEMBER a CLOSE for the current
frame is queued at the tail, unless a CLOSE is queued or on the link; elsewhere nothing is queued. A timer that is not
running does not expire (log entry 7). -/
def Obligations.SilenceAndFrameTimerExpiry : Prop :=
  (∀ (s : State), exec .silenceTimerExpiry s = .next (
     if s.membership.state = .listen ∧ s.membership.silence = .running then
       State.memberCells { s with
         membership := { s.membership with state := .member, silence := .stopped }
         frame := { s.frame with timerRunning := true }
         port := (s.deposit (.state .member .founded)).port }
     else s)) ∧
  ∀ (s : State), exec .frameTimerExpiry s = .next { s with
    frame := { s.frame with timerRunning := false }
    queue := if s.frame.timerRunning = true ∧ s.membership.state = .member ∧ ¬ s.queue.any (fun c => c.kind.isClose)
      then s.queue ++ [⟨.close s.frame.number, none, false⟩] else s.queue }

/-- R89, R97, R98: a running query timer's expiry. With the attempt count below 3 the count rises and a QUERY is
queued; at 3 a SUSPECT station trusts its own copy, and a SYNCING one starts from the last heard frame with an empty
plan, both as MEMBER with the notices FALLBACK and ABANDONED and the counter, behind the START notices of the slots
(log entry 16). The attempt count is settled at the event's end (log entry 25). A stopped timer does not expire (log
entry 7). -/
def Obligations.QueryTimerExpiry : Prop :=
  ∀ (s : State),
    let abandoned (u : State) : State :=
      (u.depositAll [.state .member .fallback, .recovery .abandoned]).count fun c =>
        { c with queryUnanswered := satAdd c.queryUnanswered 1 }
    (s.recovery.timerRunning = false → exec .queryTimerExpiry s = .next s) ∧
    (s.recovery.timerRunning = true → s.recovery.attempts < 3 →
      exec .queryTimerExpiry s = .next (State.settleAttempts { s with
        recovery := { s.recovery with timerRunning := false, attempts := s.recovery.attempts + 1 }
        queue := if s.queue.any (fun c => c.kind = .query) then s.queue else s.queue ++ [⟨.query, none, false⟩] })) ∧
    (s.recovery.timerRunning = true → 3 ≤ s.recovery.attempts → s.membership.state = .suspect →
      exec .queryTimerExpiry s = .next (State.settleAttempts (abandoned (State.memberCells { s with
        recovery := { s.recovery with timerRunning := false, attempts := 0 }
        frame := { s.frame with timerRunning := true }
        membership := { s.membership with state := .member } })))) ∧
    (s.recovery.timerRunning = true → 3 ≤ s.recovery.attempts → s.membership.state = .syncing →
      exec .queryTimerExpiry s = .next (State.settleAttempts (abandoned (State.memberCells { s with
        claims := { s.claims with table := [], removalMark := false }
        recovery := { s.recovery with timerRunning := false, attempts := 0 }
        frame := { s.frame with number := s.frame.lastHeard, outstanding := [], timerRunning := true }
        membership := { s.membership with
          state := .member
          roster := tab16 fun _ => ⟨false, 0, false, 0⟩ } }))))

/-! ### The sensor port -/

/-- R132, R133, R137, R142, R143: sensor frames. A start takes every ARMED context to CAPTURING from row 0 with the
row counter at 0; an end, while in frame, ends the tile of every CAPTURING context with an end marker that counts the
rows not reached and the rows missed; a start while in frame is both, in that order. In STRAP the port is not in use.
-/
def Obligations.SensorFrames : Prop :=
  ∀ (s : State),
    (s.membership.state = .strap → exec .sensorFrameStart s = .next s ∧ exec .sensorFrameEnd s = .next s) ∧
    (s.membership.state ≠ .strap → s.capture.inFrame = false →
      exec .sensorFrameEnd s = .next s ∧
      exec .sensorFrameStart s = .next { s with capture := {
        contexts := tab4 fun n => (match s.contextAt n with
          | .armed f => .capturing f 0 0
          | other => other)
        inFrame := true
        rowCounter := 0 } }) ∧
    (s.membership.state ≠ .strap → s.capture.inFrame = true →
      (∀ n, match s.contextAt n, s.ownEntry n with
        | .capturing _ next _, some e => next < e.region.rows.toNat
        | .capturing _ _ _, none => False
        | _, _ => True) →
      let missing (n : SlotNo) : Nat := match s.contextAt n, s.ownEntry n with
        | .capturing _ next missed, some e => e.region.rows.toNat - next + missed
        | _, _ => 0
      let marker (n : SlotNo) : Option StoreEntry := match s.contextAt n, s.ownEntry n with
        | .capturing f _ _, some e => some ⟨n, f, e.region.rows.toNat - 1, .endMarker (missing n), false⟩
        | _, _ => none
      let total := satAdd s.port.counters.rowsMissing (missing 0 + missing 1 + missing 2 + missing 3)
      let ended : State := { s with
        store := s.store ++ slotOrder.filterMap marker
        capture := { s.capture with
          contexts := tab4 fun n => (match s.contextAt n with
            | .capturing f _ _ => .done f
            | other => other)
          inFrame := false }
        port := { s.port with counters := { s.port.counters with rowsMissing := total } } }
      exec .sensorFrameEnd s = .next ended ∧ exec .sensorFrameStart s = exec .sensorFrameStart ended)

/-- R132, R133, R144: a sensor line in frame is counted up to the 4096th row and served by the contexts in slot order;
out of frame, in STRAP or past that row it changes nothing. R138 to R143, R155, R156: what one CAPTURING context makes
of a line: only the sensor row crop y + next tile row is its. A row that is long enough is packed and stored while
fewer than 60 rows wait and its bytes fit in 65,536; a short or refused row is missed, a refused one counted; the last
row ends the tile, stored with LAST or replaced by an end marker, and the rows missed are then counted. A context that
is not CAPTURING is left alone. -/
def Obligations.SensorLineIsServed : Prop :=
  (∀ (s : State) (line : List (BitVec 24)),
     let pixels := (line.take 4096).map (pixelOf (strapSensor s.strap.words))
     let take := takeLine s.capture.rowCounter pixels
     exec (.sensorLine line) s = .next (
       if s.membership.state ≠ .strap ∧ s.capture.inFrame = true ∧ s.capture.rowCounter < 4096 then
         take (take (take (take { s with capture := { s.capture with rowCounter := s.capture.rowCounter + 1 } } 0) 1) 2) 3
       else s)) ∧
  (∀ (s : State) (row : Nat) (pixels : List Pixel) (n : SlotNo),
     (match s.contextAt n with
       | .capturing _ _ _ => False
       | _ => True) → takeLine row pixels s n = s) ∧
  ∀ (s : State) (row : Nat) (pixels : List Pixel) (n : SlotNo) (f : Word) (next missed : Nat) (e : Entry) (l : LocalPart),
    s.contextAt n = .capturing f next missed → s.ownEntry n = some e → e.localPart = some l → next < e.region.rows.toNat →
    let rows := e.region.rows.toNat
    let cols := e.region.cols.toNat
    let x := l.crop.x.toNat
    let packed := packRow e.format ((pixels.drop x).take cols)
    let fits := x + cols ≤ pixels.length
    let room := s.store.countP (fun e => !e.sort.isMarker) < 60 ∧
      (s.store.map fun e => e.sort.packed.length).sum + packed.length ≤ 65536
    let context (u : State) (c : Context) : State :=
      { u with capture := { u.capture with contexts := tab4 fun m => if m = n then c else u.contextAt m } }
    let stored (u : State) (sort : StoreSort) : State :=
      { u with store := u.store ++ [⟨n, f, next, sort, false⟩] }
    let counted (u : State) (m : Nat) : State := u.count fun c => { c with rowsMissing := satAdd c.rowsMissing m }
    let refused := if fits then s.count (fun c => { c with linesDropped := satAdd c.linesDropped 1 }) else s
    takeLine row pixels s n =
      if row ≠ l.crop.y.toNat + next then s
      else if fits ∧ room then
        (if next + 1 = rows then context (counted (stored s (.lastRow missed packed)) missed) (.done f)
          else context (stored s (.row packed)) (.capturing f (next + 1) missed))
      else
        (if next + 1 = rows then context (counted (stored refused (.endMarker (missed + 1))) (missed + 1)) (.done f)
          else context refused (.capturing f (next + 1) (missed + 1)))

/-- R134: the four values of a pixel, by sensor kind. Which data lines carry R, G and B, and a MONO pixel, is the
model's choice (log entry 22). -/
def Obligations.PixelValues : Prop :=
  ∀ (p : BitVec 24),
    let color := pixelOf .color p
    let mono := pixelOf .mono p
    color.r ++ color.g ++ color.b = p ∧
    color.y.toNat = 4 * (color.r.toNat + 2 * color.g.toNat + color.b.toNat) ∧ color.y.toNat ≤ 4080 ∧
    mono.y.toNat = p.toNat % 4096 ∧ mono.r.toNat = mono.y.toNat / 16 ∧ mono.g = mono.r ∧ mono.b = mono.r

/-- R151: RGB888 is R, G, B; RGB565 is a 16-bit value, less significant byte first, of the top 5, 6 and 5 bits; from a
MONO sensor an RGB888 pixel repeats one byte, and an RGB565 pixel its top bits. R152, R150: MONO8 is bits 11..4 of Y,
one byte a pixel, so from a COLOR sensor (R + 2G + B) / 4. MONO12P packs each pair of pixels in three bytes; from a
COLOR sensor the low 2 bits of Y are 0. -/
def Obligations.ColorAndMonochromePacking : Prop :=
  (∀ (pixels : List Pixel) (p : BitVec 24),
     let value (r g b : Byte) : Nat := r.toNat / 8 * 2048 + g.toNat / 4 * 32 + b.toNat / 8
     let bytes (v : Nat) : List Byte := [BitVec.ofNat 8 (v % 256), BitVec.ofNat 8 (v / 256)]
     let mono := pixelOf .mono p
     packRow .rgb888 pixels = pixels.flatMap (fun x => [x.r, x.g, x.b]) ∧
     packRow .rgb565 pixels = pixels.flatMap (fun x => bytes (value x.r x.g x.b)) ∧
     packRow .rgb888 [mono] = [mono.r, mono.r, mono.r] ∧ packRow .rgb565 [mono] = bytes (value mono.r mono.r mono.r)) ∧
  ∀ (pixels : List Pixel) (p : BitVec 24),
    let color := pixelOf .color p
    (packRow .mono8 pixels).map BitVec.toNat = pixels.map (fun x => x.y.toNat / 16) ∧
    (packRow .mono8 [color]).map BitVec.toNat = [(color.r.toNat + 2 * color.g.toNat + color.b.toNat) / 4] ∧
    color.y.toNat % 4 = 0 ∧
    (pixels.length % 2 = 0 →
      (packRow .mono12p pixels).length = 3 * pixels.length / 2 ∧
      ∀ i < pixels.length / 2, ∀ a ∈ pixels[2 * i]?, ∀ b ∈ pixels[2 * i + 1]?,
        (((packRow .mono12p pixels).drop (3 * i)).take 3).map BitVec.toNat =
          [a.y.toNat / 16, b.y.toNat / 16, a.y.toNat % 16 + 16 * (b.y.toNat % 16)])

/-! ### The local port -/

/-- R185, R186, R208, R205: a read window shifts out the waiting reply, then 0x00, and empties the buffer when it has
clocked out every byte of it; the bytes are the status with the OVERRUN mark, the body length, the body, and the byte
that makes their 8-bit sum 0. While RESETn is asserted LDO carries 0x00 and the reply is left. -/
def Obligations.ReadWindow : Prop :=
  ∀ (s : State) (n : Nat), 1 ≤ n →
    let zeros := List.replicate n (0 : Byte)
    exec (.readWindow n) s = .next (match s.port.reply with
      | none => { s with port := { s.port with ldo := zeros } }
      | some r =>
        if s.resetLine then { s with port := { s.port with ldo := zeros } }
        else { s with port := { s.port with
          ldo := (r.bytes ++ zeros).take n
          reply := if r.body.length + 4 ≤ n then none else some r } }) ∧
    ∀ r ∈ s.port.reply,
      r.bytes = [r.status.code + (if r.overrun then 0x80 else 0), BitVec.ofNat 8 (r.body.length % 256),
        BitVec.ofNat 8 (r.body.length / 256)] ++ r.body ++ [r.bytes.getLastD 0] ∧
      (r.bytes.map BitVec.toNat).sum % 256 = 0

/-- R187, R185: a request window that spells another command of the table does what that command does; one whose frame
is not whole is refused with REFUSED-CHECK, and a whole frame with an unknown code with REFUSED-CODE, both lost to an
OVERRUN mark while a reply waits (R188) and to the asserted RESETn (R205). R188, R189, R190, R197, R198, R205: when a
whole request of one of the codes 1 to 10 is not executed: while RESETn is asserted, while a reply waits (the OVERRUN
mark), and by the first failing judgement, body length, station state, a BYE queued or on the link, arguments. Only
the port's reply and LDO change. -/
def Obligations.RefusedAndLostRequests : Prop :=
  (∀ (s : State) (bytes : List Byte),
     (∀ c ∈ decodeWindowBytes bytes, c ≠ .requestWindow bytes → exec (.requestWindow bytes) s = exec c s) ∧
     (decodeWindowBytes bytes = some (.requestWindow bytes) →
       let zeros := List.replicate bytes.length (0 : Byte)
       let sum := (bytes.map BitVec.toNat).sum
       let whole := 3 ≤ bytes.length ∧ bytes.length = 3 + (bytes.getD 1 0).toNat ∧ sum % 256 = 0
       exec (.requestWindow bytes) s = .next { s with port := (
         if s.resetLine then { s.port with ldo := zeros }
         else match s.port.reply with
           | some r => { s.port with
               ldo := (r.bytes.take 1 ++ zeros).take bytes.length
               reply := some { r with overrun := true } }
           | none => { s.port with
               ldo := zeros
               reply := some ⟨if whole then .refusedCode else .refusedCheck, [], false⟩ }) })) ∧
  ∀ (s : State) (c : Instr) (code : Byte) (body : List Byte), requestCode c = some (code, body) → code ≠ 11 →
    let n := body.length + 3
    let zeros := List.replicate n (0 : Byte)
    let state := s.membership.state
    let slots := code = 6 ∨ code = 7 ∨ code = 8
    let allowed :=
      (slots → state = .listen ∨ state = .syncing ∨ state = .member ∨ state = .suspect) ∧
      (code = 9 → state = .member) ∧ (code = 10 → state = .left)
    let bye := s.queue.any fun d => d.kind = .bye
    let judgement : Option Status :=
      ([(decide (body.length ≠ [0, 0, 0, 0, 1, 0, 1, 1, 14, 0, 0].getD code.toNat 0), Status.refusedArg),
        (decide (¬ allowed), .refusedState),
        (decide ((slots ∨ code = 9) ∧ bye = true), .refusedState),
        (decide (code = 4 ∧ 1 < (body.getD 0 0).toNat ∨ slots ∧ 3 < (body.getD 0 0).toNat), .refusedArg)].find?
          Prod.fst).map Prod.snd
    (s.resetLine = true → exec c s = .next { s with port := { s.port with ldo := zeros } }) ∧
    (s.resetLine = false → ∀ r ∈ s.port.reply, exec c s = .next { s with port := { s.port with
      ldo := (r.bytes.take 1 ++ zeros).take n
      reply := some { r with overrun := true } } }) ∧
    (s.resetLine = false → s.port.reply = none → ∀ why ∈ judgement,
      exec c s = .next (s.answered n why []))

/-- R192, R208, section 11.5: STATUS, in every station state, replies the station as it stands and changes nothing
else. -/
def Obligations.StatusReply : Prop :=
  ∀ (s : State), s.asks = true →
    let slot (n : SlotNo) : Byte :=
      BitVec.ofNat 8 ((match (s.slotAt n).state with
        | .off => 0
        | .wanted => 1
        | .proposed => 2
        | .waiting .overlap => 3 + 8
        | .waiting .full => 3 + 16
        | .active => 4
        | .dropping => 5) + (if (s.slotAt n).startOn then 64 else 0) + (if (s.slotAt n).offAfter then 128 else 0))
    let detail : Byte := match s.strap.detail with
      | .none => 0
      | .noAnswer => 1
      | .tag => 2
      | .checksum => 3
      | .sensorKind => 4
      | .helloInterval => 5
      | .rosterTimeout => 6
      | .divider => 7
      | .frameTimeout => 8
      | .silenceWindow => 9
      | .compositeW => 10
      | .compositeH => 11
    let cause : Byte := match s.strap.cause with
      | .power => 1
      | .line => 2
      | .localPort => 3
    let bytes := (s.store.map fun e => e.sort.packed.length).sum
    exec (.status []) s = .next (s.answered 3 .done (
      (match s.membership.state with
        | .strap => [0, 0]
        | .listen => [1, 0]
        | .syncing => [2, 0]
        | .member => [3, 0]
        | .suspect => [4, 0]
        | .left => [5, 0]
        | .muted .strap => [6, 1]
        | .muted .duplicate => [6, 2]
        | .muted .collision => [6, 3]
        | .muted .params => [6, 4]) ++
      [BitVec.ofNat 8 s.own.val] ++ wordBytes s.frame.number ++
      [(match s.link.lastSender with
        | some x => BitVec.ofNat 8 x.val
        | none => 0xFF), BitVec.ofNat 8 s.claims.table.length, BitVec.ofNat 8 s.store.length] ++
      [BitVec.ofNat 8 bytes, BitVec.ofNat 8 (bytes / 256), BitVec.ofNat 8 (bytes / 65536),
        BitVec.ofNat 8 (bytes / 16777216)] ++
      [BitVec.ofNat 8 s.queue.length, slot 0, slot 1, slot 2, slot 3, BitVec.ofNat 8 s.recovery.attempts,
        BitVec.ofNat 8 s.strap.failed, detail, cause, s.strap.resetCount,
        BitVec.ofNat 8 s.port.notices.length, s.port.noticesLost]))

/-- R193, R194, section 11.3: TABLE and ROSTER reply their records, the outstanding mark in bit 7 of an entry's second
byte, and change nothing else. R195, R196, R203: COUNTERS replies the nineteen counters in R204's order and
notices-lost, and with clear flag 1 sets them all to 0. NOTICE takes the oldest notice out of the queue as its body,
and replies an empty body when none waits; ATTN follows the queue. (The code of a cause that no rule lists is a free
value, log entry 20.) -/
def Obligations.TableRosterCountersAndNotice : Prop :=
  (∀ (s : State), s.asks = true → (∀ i, (s.rosterAt i).age < 16) →
     exec (.table []) s = .next (s.answered 3 .done (BitVec.ofNat 8 s.claims.table.length ::
       s.claims.table.flatMap fun e =>
         [BitVec.ofNat 8 (e.owner.val + 16 * e.slot.val),
           BitVec.ofNat 8 (e.format.code + 4 * e.state.code + (if e.key ∈ s.frame.outstanding then 128 else 0))] ++
         wordBytes e.region.row0 ++ wordBytes e.region.rows ++ wordBytes e.region.col0 ++ wordBytes e.region.cols)) ∧
     exec (.roster []) s = .next (s.answered 3 .done (stationOrder.flatMap fun i =>
       let e := s.rosterAt i
       [BitVec.ofNat 8 (e.age + (if e.heard then 64 else 0) + (if e.present then 128 else 0)), e.sequence]))) ∧
  ∀ (s : State), s.asks = true →
    let slotCode (st : SlotState) : Byte := match st with
      | .off => 0
      | .wanted => 1
      | .proposed => 2
      | .waiting _ => 3
      | .active => 4
      | .dropping => 5
    let slotCause (why : SlotCause) : Byte := match why with
      | .invalid => 1
      | .start => 2
      | .accepted => 3
      | .full => 8
      | .overlap => 9
      | .withdrawn => 10
      | .retry => 11
      | .released => 13
      | .suspect => 14
      | .install => 15
      | .unlisted code => code
    let stationCode (st : StationState) : Byte := match st with
      | .strap => 0
      | .listen => 1
      | .syncing => 2
      | .member => 3
      | .suspect => 4
      | .left => 5
      | .muted _ => 6
    let stateCause (why : StateCause) : Byte := match why with
      | .start => 1
      | .rejoin => 2
      | .heard => 3
      | .founded => 4
      | .install => 5
      | .fallback => 6
      | .bye => 7
      | .gap => 8
      | .lost => 9
      | .ahead => 10
      | .omitted => 11
      | .digest => 12
      | .strap => 13
      | .duplicate => 14
      | .collision => 15
      | .params => 16
    let layout (x : Notice) : List Byte := match x with
      | .slot n st why => [1, BitVec.ofNat 8 n.val, slotCode st, slotCause why]
      | .cut n f => [2, BitVec.ofNat 8 n.val, BitVec.ofNat 8 (f.toNat % 256), BitVec.ofNat 8 (f.toNat / 256)]
      | .state st why => [3, stationCode st, stateCause why]
      | .recovery .installed => [4, 1]
      | .recovery .abandoned => [4, 2]
    (∀ flag : Byte, flag.toNat ≤ 1 →
      let k := s.port.counters
      let t := s.answered 4 .done ([k.headerFixed, k.headerBad, k.oversize, k.aborted, k.payloadBad, k.collisions,
        k.unknownKind, k.lag, k.lateTile, k.staleClose, k.seqGap, k.digestMismatch, k.paramsMismatch, k.dumpsSent,
        k.dumpsInstalled, k.queryUnanswered, k.tilesCut, k.linesDropped, k.rowsMissing].flatMap wordBytes ++
        [s.port.noticesLost])
      exec (.counters [flag]) s = .next (
        if flag = 0 then t else { t with port := { t.port with
          counters := ⟨0, 0, 0, 0, 0, 0, 0, 0, 0, 0, 0, 0, 0, 0, 0, 0, 0, 0, 0⟩, noticesLost := 0 } })) ∧
    exec (.notice []) s = .next (match s.port.notices with
      | [] => s.answered 3 .done []
      | oldest :: rest =>
        let t := s.answered 3 .done (layout oldest)
        { t with port := { t.port with notices := rest } }) ∧
    (s.attn = true ↔ s.port.notices ≠ [])

/-- R201, R202: a notice joins the queue at its tail; with eight waiting it is dropped and notices-lost rises by 1 up
to 255. Nothing else changes. -/
def Obligations.NoticesAreDeposited : Prop :=
  ∀ (s : State) (n : Notice),
    let t := s.deposit n
    (s.port.notices.length < 8 → t.port.notices = s.port.notices ++ [n] ∧ t.port.noticesLost = s.port.noticesLost) ∧
    (8 ≤ s.port.notices.length → t.port.notices = s.port.notices ∧
      t.port.noticesLost.toNat = min (s.port.noticesLost.toNat + 1) 255) ∧
    t = { s with port := { s.port with notices := t.port.notices, noticesLost := t.port.noticesLost } }

/-- R27: SLOT-OFF on slot n, past R189's judgements, by the slot's state; it always replies DONE. R28, R29, R18, R197:
SLOT-ON and SLOT-SET on slot n, past R189's judgements, are taken when the slot is OFF. SLOT-ON makes it WANTED with
the start-on mark clear when the local checks pass, and at a MEMBER PROPOSED with its CLAIM queued when its own entry
is PRESENT or a HELLO waits, queued and not on the link (R20, log entry 17); SLOT-SET replaces the contents unjudged.
The attempt count is settled at the end (log entry 25). -/
def Obligations.SlotRequests : Prop :=
  (∀ (s : State) (n : SlotNo), s.asks = true → s.takesSlots = true →
     let sl := s.slotAt n
     let put (u : State) (x : Slot) : State :=
       { u with claims := { u.claims with slots := tab4 fun m => if m = n then x else u.slotAt m } }
     let onTheLink := s.queue.any fun c => c.kind = .claim n ∧ c.inFlight = true
     let mine (c : QueuedCell) : Bool := c.kind == .claim n && !c.inFlight
     let returned := s.queue.countP fun c => mine c && c.given.isSome
     exec (.slotOff [BitVec.ofNat 8 n.val]) s = .next (State.answered (
       match sl.state with
       | .off => put s { sl with startOn := false }
       | .wanted => put s { sl with state := .off }
       | .waiting _ => put s { sl with state := .off }
       | .proposed =>
         if onTheLink then put s { sl with offAfter := true }
         else State.settleAttempts (put { s with
           queue := s.queue.filter fun c => !mine c
           membership := { s.membership with
             sequence := s.membership.sequence - BitVec.ofNat 8 returned } } { sl with state := .off, offAfter := false })
       | .active => put { s with queue := if s.membership.state = .member then (s.enqueue (.release n)).queue else s.queue }
           { sl with state := .dropping }
       | .dropping => s) 4 .done [])) ∧
  ∀ (s : State) (n : SlotNo) (format : Byte) (r : Region) (c : Crop), s.asks = true → s.takesSlots = true →
    let sl := s.slotAt n
    let put (x : Slot) : State :=
      { s with claims := { s.claims with slots := tab4 fun m => if m = n then x else s.slotAt m } }
    let claims := s.membership.state = .member ∧
      (s.present s.own = true ∨ s.queue.any (fun d => d.kind = .hello ∧ d.inFlight = false))
    let body := [BitVec.ofNat 8 n.val, format] ++ wordBytes r.row0 ++ wordBytes r.rows ++ wordBytes r.col0 ++
      wordBytes r.cols ++ wordBytes c.x ++ wordBytes c.y
    exec (.slotOn [BitVec.ofNat 8 n.val]) s = .next (
      if sl.state ≠ .off then s.answered 4 .refusedState []
      else if localChecks s.strap.words n sl.format sl.region sl.crop = false then s.answered 4 .refusedArg []
      else if claims then
        State.answered { put { sl with state := .proposed, startOn := false } with
          queue := (s.enqueue (.claim n)).queue } 4 .done []
      else (put { sl with state := .wanted, startOn := false }).answered 4 .done []) ∧
    exec (.slotSet body) s = .next (
      if sl.state ≠ .off then s.answered 17 .refusedState []
      else (put { sl with format := Format.ofBits (format.toNat % 4), region := r, crop := c }).answered 17 .done [])

/-- R72, R198, R75, R199: LEAVE in MEMBER, no BYE queued, queues a BYE. REJOIN in LEFT sets the values of LEFT once
more and moves the station to LISTEN with the silence timer started, held while a signal is on the link. R200, R188,
R205: a RESET frame with a body resets nothing: it is refused with REFUSED-ARG, lost to an OVERRUN mark while a reply
waits, and without effect while RESETn is asserted. -/
def Obligations.LeaveRejoinAndRefusedReset : Prop :=
  (∀ (s : State), s.asks = true →
     (s.membership.state = .member → s.queue.any (fun c => c.kind = .bye) = false →
       exec (.leave []) s = .next (State.answered { s with queue := s.queue ++ [⟨.bye, none, false⟩] } 3 .done [])) ∧
     (s.membership.state = .left → exec (.rejoin []) s = .next (State.answered { s with
       store := []
       queue := []
       capture := { s.capture with contexts := tab4 fun _ => .idle }
       claims := ⟨[], false, tab4 fun n => { s.slotAt n with state := .off, startOn := false, offAfter := false }⟩
       frame := ⟨0, [], false, 0⟩
       membership := ⟨.listen, tab16 fun _ => ⟨false, 0, false, 0⟩, s.membership.sequence,
         if s.link.busy then .held else .running⟩
       recovery := ⟨false, 0, []⟩
       ladder := { s.ladder with attempts := 0 }
       port := (s.deposit (.state .listen .rejoin)).port } 3 .done []))) ∧
  ∀ (s : State) (body : List Byte), body ≠ [] →
    let zeros := List.replicate (body.length + 3) (0 : Byte)
    exec (.reset body) s = .next (
      if s.resetLine then { s with port := { s.port with ldo := zeros } }
      else match s.port.reply with
        | none => s.answered (body.length + 3) .refusedArg []
        | some r => { s with port := { s.port with
            ldo := (r.bytes.take 1 ++ zeros).take (body.length + 3)
            reply := some { r with overrun := true } } })

/-- R184, R185, R187, section 11.5: every well-formed command of the local port is spelled by the bits of one select
window, and reading those bits back gives the command, whatever its operand. -/
def Obligations.WindowsSpellTheirCommands : Prop :=
  ∀ (c : Instr), c.wf = true → (windowBytes c).isSome = true →
    ∃ bits, encodeWindow c = some bits ∧ decodeWindow bits = some c

/-! ### Invariants of every step -/

/-- R201, R4, R155, R133: no step takes the notice queue past 8, the claim table past 32, the store past 60 rows or
65,536 bytes, or the sensor row counter past 4096. R78, R117, R129, R178: every step keeps the query attempt count at
most 3 with requesters only in MEMBER, the ladder's attempt count at most 4 and 4 only in MUTED, and the strap
result's failures at most two. -/
def Obligations.EveryStepKeepsTheLimits : Prop :=
  (∀ (s t : State), step s = .next t →
     (s.noticesBounded = true → t.noticesBounded = true) ∧
     (s.tableBounded = true → t.tableBounded = true) ∧
     (s.storeBounded = true → t.storeBounded = true) ∧
     (s.rowsCounted = true → t.rowsCounted = true)) ∧
  ∀ (s t : State), s.timersLawful = true → s.silentEmpty = true → step s = .next t →
    (s.recoveryLawful = true → t.recoveryLawful = true) ∧
    (s.attemptsLawful = true → t.attemptsLawful = true) ∧
    (s.strapResultLawful = true → t.strapResultLawful = true)

/-- R162: every step keeps at most one cell of the control queue in each of its nine places. R167: every step keeps
the queue of a SYNCING or SUSPECT station to a QUERY and a BYE. R165: every step keeps at most one queued cell with a
given number, the first one in MEMBER and a QUERY in SYNCING and SUSPECT. -/
def Obligations.EveryStepKeepsTheQueueLawful : Prop :=
  (∀ (s t : State), s.queuePlaces = true → step s = .next t → t.queuePlaces = true ∧ t.queue.length ≤ 9) ∧
  (∀ (s t : State), s.timersLawful = true → s.silentEmpty = true → s.queuePlaces = true → s.flightLawful = true →
     s.suspectQueue = true → step s = .next t → t.suspectQueue = true) ∧
  ∀ (s t : State), s.timersLawful = true → s.silentEmpty = true → s.queuePlaces = true → s.flightLawful = true →
    s.suspectQueue = true → s.givenLawful = true → step s = .next t →
    t.givenLawful = true ∧ t.queue.countP (fun c => c.given.isSome) ≤ 1

/-- R26, R4, R20, R25: every step keeps the own entries exactly one per slot ACTIVE or DROPPING in MEMBER and SUSPECT,
none for the other slots, with every CLAIM queued for a PROPOSED slot and every RELEASE for a DROPPING one; before
MEMBER and in LEFT the table stays empty. A DUMP that is heard holds no key twice (R4): the station does not check it
(log entry 21). -/
def Obligations.EveryStepKeepsTheSlotsLawful : Prop :=
  ∀ (s t : State), s.timersLawful = true → s.silentEmpty = true → s.queuePlaces = true → s.flightLawful = true →
    s.suspectQueue = true → s.dumpsHoldDistinctKeys = true → s.slotsLawful = true → step s = .next t →
    t.slotsLawful = true

/-- R33, R57, R78: every step keeps each timer stopped outside the states it runs in. R132, R160, R167, R168: every
step keeps a station in STRAP, LISTEN, LEFT or MUTED without queued cells, stored rows, contexts at work or a cell on
the link. -/
def Obligations.EveryStepKeepsTimersAndSilentStates : Prop :=
  (∀ (s t : State), s.timersLawful = true → step s = .next t → t.timersLawful = true) ∧
  ∀ (s t : State), s.timersLawful = true → s.silentEmpty = true → step s = .next t → t.silentEmpty = true

/-- R111, R117, R161, R164, R166: every step keeps the grid on an idle link at a receiver in use, and at most one cell
in flight, marked in its queue or store, while the link is busy. -/
def Obligations.EveryStepKeepsTheFlightLawful : Prop :=
  ∀ (s t : State), s.queuePlaces = true → s.gridLawful = true → s.flightLawful = true → step s = .next t →
    t.gridLawful = true ∧ t.flightLawful = true

/-- R132, R136, R141, R143, R147, R155, R158: every step keeps contexts and stored rows in the current frame, their
tiles outstanding, LAST entries behind a DONE context and last of their tile, and at most four end markers stored. -/
def Obligations.EveryStepKeepsTheTilesLawful : Prop :=
  ∀ (s t : State), s.timersLawful = true → s.silentEmpty = true → s.queuePlaces = true → s.gridLawful = true →
    s.flightLawful = true → s.framesAgree = true → s.tilesLawful = true → step s = .next t →
    t.framesAgree = true ∧ t.tilesLawful = true ∧ storeMarkers t.store ≤ 4

/-- R61, R63, R172, R176, R179, R180: every step keeps the roster's ages lawful, a started station on an image that
passed, and a station that is not started on reset values. -/
def Obligations.EveryStepKeepsTheRosterLawful : Prop :=
  ∀ (s t : State), s.strapValid = true → s.unloadedBlank = true → s.timersLawful = true → s.silentEmpty = true →
    s.rosterLawful = true → step s = .next t →
    t.rosterLawful = true ∧ t.strapValid = true ∧ t.unloadedBlank = true
end

