-- ==== Sys2Proof/Laws/State.lean ====
section
/-! SUPPORT. What each named operation leaves as it is: one lemma per block of the state per operation, and per field of a
block that the operation changes in part. Later proofs rewrite with these and unfold no record update. -/

namespace Sys2Proof.Machine

variable (s : State)

/-! `State.deposit` changes only: port. -/

@[simp] theorem State.deposit_claims (n : Notice) : (s.deposit n).claims = s.claims := by
  unfold State.deposit; split <;> rfl
@[simp] theorem State.deposit_frame (n : Notice) : (s.deposit n).frame = s.frame := by
  unfold State.deposit; split <;> rfl
@[simp] theorem State.deposit_membership (n : Notice) : (s.deposit n).membership = s.membership := by
  unfold State.deposit; split <;> rfl
@[simp] theorem State.deposit_recovery (n : Notice) : (s.deposit n).recovery = s.recovery := by
  unfold State.deposit; split <;> rfl
@[simp] theorem State.deposit_link (n : Notice) : (s.deposit n).link = s.link := by
  unfold State.deposit; split <;> rfl
@[simp] theorem State.deposit_ladder (n : Notice) : (s.deposit n).ladder = s.ladder := by
  unfold State.deposit; split <;> rfl
@[simp] theorem State.deposit_capture (n : Notice) : (s.deposit n).capture = s.capture := by
  unfold State.deposit; split <;> rfl
@[simp] theorem State.deposit_store (n : Notice) : (s.deposit n).store = s.store := by
  unfold State.deposit; split <;> rfl
@[simp] theorem State.deposit_queue (n : Notice) : (s.deposit n).queue = s.queue := by
  unfold State.deposit; split <;> rfl
@[simp] theorem State.deposit_strap (n : Notice) : (s.deposit n).strap = s.strap := by
  unfold State.deposit; split <;> rfl
@[simp] theorem State.deposit_resetLine (n : Notice) : (s.deposit n).resetLine = s.resetLine := by
  unfold State.deposit; split <;> rfl
@[simp] theorem State.deposit_free (n : Notice) : (s.deposit n).free = s.free := by
  unfold State.deposit; split <;> rfl
@[simp] theorem State.deposit_pending (n : Notice) : (s.deposit n).pending = s.pending := by
  unfold State.deposit; split <;> rfl
@[simp] theorem State.deposit_port_reply (n : Notice) : (s.deposit n).port.reply = s.port.reply := by
  unfold State.deposit; split <;> rfl
@[simp] theorem State.deposit_port_counters (n : Notice) : (s.deposit n).port.counters = s.port.counters := by
  unfold State.deposit; split <;> rfl
@[simp] theorem State.deposit_port_ldo (n : Notice) : (s.deposit n).port.ldo = s.port.ldo := by
  unfold State.deposit; split <;> rfl

/-! `State.count` changes only: port. -/

@[simp] theorem State.count_claims (f : Counters → Counters) : (s.count f).claims = s.claims := rfl
@[simp] theorem State.count_frame (f : Counters → Counters) : (s.count f).frame = s.frame := rfl
@[simp] theorem State.count_membership (f : Counters → Counters) : (s.count f).membership = s.membership := rfl
@[simp] theorem State.count_recovery (f : Counters → Counters) : (s.count f).recovery = s.recovery := rfl
@[simp] theorem State.count_link (f : Counters → Counters) : (s.count f).link = s.link := rfl
@[simp] theorem State.count_ladder (f : Counters → Counters) : (s.count f).ladder = s.ladder := rfl
@[simp] theorem State.count_capture (f : Counters → Counters) : (s.count f).capture = s.capture := rfl
@[simp] theorem State.count_store (f : Counters → Counters) : (s.count f).store = s.store := rfl
@[simp] theorem State.count_queue (f : Counters → Counters) : (s.count f).queue = s.queue := rfl
@[simp] theorem State.count_strap (f : Counters → Counters) : (s.count f).strap = s.strap := rfl
@[simp] theorem State.count_resetLine (f : Counters → Counters) : (s.count f).resetLine = s.resetLine := rfl
@[simp] theorem State.count_free (f : Counters → Counters) : (s.count f).free = s.free := rfl
@[simp] theorem State.count_pending (f : Counters → Counters) : (s.count f).pending = s.pending := rfl
@[simp] theorem State.count_port_reply (f : Counters → Counters) : (s.count f).port.reply = s.port.reply := rfl
@[simp] theorem State.count_port_notices (f : Counters → Counters) : (s.count f).port.notices = s.port.notices := rfl
@[simp] theorem State.count_port_noticesLost (f : Counters → Counters) :
    (s.count f).port.noticesLost = s.port.noticesLost := rfl
@[simp] theorem State.count_port_ldo (f : Counters → Counters) : (s.count f).port.ldo = s.port.ldo := rfl

/-! `State.setSlot` changes only: claims. -/

@[simp] theorem State.setSlot_frame (n : SlotNo) (sl : Slot) : (s.setSlot n sl).frame = s.frame := rfl
@[simp] theorem State.setSlot_membership (n : SlotNo) (sl : Slot) : (s.setSlot n sl).membership = s.membership := rfl
@[simp] theorem State.setSlot_recovery (n : SlotNo) (sl : Slot) : (s.setSlot n sl).recovery = s.recovery := rfl
@[simp] theorem State.setSlot_link (n : SlotNo) (sl : Slot) : (s.setSlot n sl).link = s.link := rfl
@[simp] theorem State.setSlot_ladder (n : SlotNo) (sl : Slot) : (s.setSlot n sl).ladder = s.ladder := rfl
@[simp] theorem State.setSlot_capture (n : SlotNo) (sl : Slot) : (s.setSlot n sl).capture = s.capture := rfl
@[simp] theorem State.setSlot_store (n : SlotNo) (sl : Slot) : (s.setSlot n sl).store = s.store := rfl
@[simp] theorem State.setSlot_queue (n : SlotNo) (sl : Slot) : (s.setSlot n sl).queue = s.queue := rfl
@[simp] theorem State.setSlot_strap (n : SlotNo) (sl : Slot) : (s.setSlot n sl).strap = s.strap := rfl
@[simp] theorem State.setSlot_port (n : SlotNo) (sl : Slot) : (s.setSlot n sl).port = s.port := rfl
@[simp] theorem State.setSlot_resetLine (n : SlotNo) (sl : Slot) : (s.setSlot n sl).resetLine = s.resetLine := rfl
@[simp] theorem State.setSlot_free (n : SlotNo) (sl : Slot) : (s.setSlot n sl).free = s.free := rfl
@[simp] theorem State.setSlot_pending (n : SlotNo) (sl : Slot) : (s.setSlot n sl).pending = s.pending := rfl
@[simp] theorem State.setSlot_claims_table (n : SlotNo) (sl : Slot) :
    (s.setSlot n sl).claims.table = s.claims.table := rfl
@[simp] theorem State.setSlot_claims_removalMark (n : SlotNo) (sl : Slot) :
    (s.setSlot n sl).claims.removalMark = s.claims.removalMark := rfl

/-! `State.setSlotState` changes only: claims. -/

@[simp] theorem State.setSlotState_frame (n : SlotNo) (st : SlotState) : (s.setSlotState n st).frame = s.frame := rfl
@[simp] theorem State.setSlotState_membership (n : SlotNo) (st : SlotState) :
    (s.setSlotState n st).membership = s.membership := rfl
@[simp] theorem State.setSlotState_recovery (n : SlotNo) (st : SlotState) :
    (s.setSlotState n st).recovery = s.recovery := rfl
@[simp] theorem State.setSlotState_link (n : SlotNo) (st : SlotState) : (s.setSlotState n st).link = s.link := rfl
@[simp] theorem State.setSlotState_ladder (n : SlotNo) (st : SlotState) :
    (s.setSlotState n st).ladder = s.ladder := rfl
@[simp] theorem State.setSlotState_capture (n : SlotNo) (st : SlotState) :
    (s.setSlotState n st).capture = s.capture := rfl
@[simp] theorem State.setSlotState_store (n : SlotNo) (st : SlotState) : (s.setSlotState n st).store = s.store := rfl
@[simp] theorem State.setSlotState_queue (n : SlotNo) (st : SlotState) : (s.setSlotState n st).queue = s.queue := rfl
@[simp] theorem State.setSlotState_strap (n : SlotNo) (st : SlotState) : (s.setSlotState n st).strap = s.strap := rfl
@[simp] theorem State.setSlotState_port (n : SlotNo) (st : SlotState) : (s.setSlotState n st).port = s.port := rfl
@[simp] theorem State.setSlotState_resetLine (n : SlotNo) (st : SlotState) :
    (s.setSlotState n st).resetLine = s.resetLine := rfl
@[simp] theorem State.setSlotState_free (n : SlotNo) (st : SlotState) : (s.setSlotState n st).free = s.free := rfl
@[simp] theorem State.setSlotState_pending (n : SlotNo) (st : SlotState) :
    (s.setSlotState n st).pending = s.pending := rfl
@[simp] theorem State.setSlotState_claims_table (n : SlotNo) (st : SlotState) :
    (s.setSlotState n st).claims.table = s.claims.table := rfl
@[simp] theorem State.setSlotState_claims_removalMark (n : SlotNo) (st : SlotState) :
    (s.setSlotState n st).claims.removalMark = s.claims.removalMark := rfl

/-! `State.changeSlot` changes only: claims, port. -/

@[simp] theorem State.changeSlot_frame (n : SlotNo) (st : SlotState) (c : SlotCause) :
    (s.changeSlot n st c).frame = s.frame := by
  simp [State.changeSlot]
@[simp] theorem State.changeSlot_membership (n : SlotNo) (st : SlotState) (c : SlotCause) :
    (s.changeSlot n st c).membership = s.membership := by
  simp [State.changeSlot]
@[simp] theorem State.changeSlot_recovery (n : SlotNo) (st : SlotState) (c : SlotCause) :
    (s.changeSlot n st c).recovery = s.recovery := by
  simp [State.changeSlot]
@[simp] theorem State.changeSlot_link (n : SlotNo) (st : SlotState) (c : SlotCause) :
    (s.changeSlot n st c).link = s.link := by
  simp [State.changeSlot]
@[simp] theorem State.changeSlot_ladder (n : SlotNo) (st : SlotState) (c : SlotCause) :
    (s.changeSlot n st c).ladder = s.ladder := by
  simp [State.changeSlot]
@[simp] theorem State.changeSlot_capture (n : SlotNo) (st : SlotState) (c : SlotCause) :
    (s.changeSlot n st c).capture = s.capture := by
  simp [State.changeSlot]
@[simp] theorem State.changeSlot_store (n : SlotNo) (st : SlotState) (c : SlotCause) :
    (s.changeSlot n st c).store = s.store := by
  simp [State.changeSlot]
@[simp] theorem State.changeSlot_queue (n : SlotNo) (st : SlotState) (c : SlotCause) :
    (s.changeSlot n st c).queue = s.queue := by
  simp [State.changeSlot]
@[simp] theorem State.changeSlot_strap (n : SlotNo) (st : SlotState) (c : SlotCause) :
    (s.changeSlot n st c).strap = s.strap := by
  simp [State.changeSlot]
@[simp] theorem State.changeSlot_resetLine (n : SlotNo) (st : SlotState) (c : SlotCause) :
    (s.changeSlot n st c).resetLine = s.resetLine := by
  simp [State.changeSlot]
@[simp] theorem State.changeSlot_free (n : SlotNo) (st : SlotState) (c : SlotCause) :
    (s.changeSlot n st c).free = s.free := by
  simp [State.changeSlot]
@[simp] theorem State.changeSlot_pending (n : SlotNo) (st : SlotState) (c : SlotCause) :
    (s.changeSlot n st c).pending = s.pending := by
  simp [State.changeSlot]
@[simp] theorem State.changeSlot_claims_table (n : SlotNo) (st : SlotState) (c : SlotCause) :
    (s.changeSlot n st c).claims.table = s.claims.table := by
  simp [State.changeSlot]
@[simp] theorem State.changeSlot_claims_removalMark (n : SlotNo) (st : SlotState) (c : SlotCause) :
    (s.changeSlot n st c).claims.removalMark = s.claims.removalMark := by
  simp [State.changeSlot]

/-! `State.setContext` changes only: capture. -/

@[simp] theorem State.setContext_claims (n : SlotNo) (c : Context) : (s.setContext n c).claims = s.claims := rfl
@[simp] theorem State.setContext_frame (n : SlotNo) (c : Context) : (s.setContext n c).frame = s.frame := rfl
@[simp] theorem State.setContext_membership (n : SlotNo) (c : Context) :
    (s.setContext n c).membership = s.membership := rfl
@[simp] theorem State.setContext_recovery (n : SlotNo) (c : Context) : (s.setContext n c).recovery = s.recovery := rfl
@[simp] theorem State.setContext_link (n : SlotNo) (c : Context) : (s.setContext n c).link = s.link := rfl
@[simp] theorem State.setContext_ladder (n : SlotNo) (c : Context) : (s.setContext n c).ladder = s.ladder := rfl
@[simp] theorem State.setContext_store (n : SlotNo) (c : Context) : (s.setContext n c).store = s.store := rfl
@[simp] theorem State.setContext_queue (n : SlotNo) (c : Context) : (s.setContext n c).queue = s.queue := rfl
@[simp] theorem State.setContext_strap (n : SlotNo) (c : Context) : (s.setContext n c).strap = s.strap := rfl
@[simp] theorem State.setContext_port (n : SlotNo) (c : Context) : (s.setContext n c).port = s.port := rfl
@[simp] theorem State.setContext_resetLine (n : SlotNo) (c : Context) :
    (s.setContext n c).resetLine = s.resetLine := rfl
@[simp] theorem State.setContext_free (n : SlotNo) (c : Context) : (s.setContext n c).free = s.free := rfl
@[simp] theorem State.setContext_pending (n : SlotNo) (c : Context) : (s.setContext n c).pending = s.pending := rfl
@[simp] theorem State.setContext_capture_inFrame (n : SlotNo) (c : Context) :
    (s.setContext n c).capture.inFrame = s.capture.inFrame := rfl
@[simp] theorem State.setContext_capture_rowCounter (n : SlotNo) (c : Context) :
    (s.setContext n c).capture.rowCounter = s.capture.rowCounter := rfl

/-! `State.idleContexts` changes only: capture. -/

@[simp] theorem State.idleContexts_claims : (s.idleContexts).claims = s.claims := rfl
@[simp] theorem State.idleContexts_frame : (s.idleContexts).frame = s.frame := rfl
@[simp] theorem State.idleContexts_membership : (s.idleContexts).membership = s.membership := rfl
@[simp] theorem State.idleContexts_recovery : (s.idleContexts).recovery = s.recovery := rfl
@[simp] theorem State.idleContexts_link : (s.idleContexts).link = s.link := rfl
@[simp] theorem State.idleContexts_ladder : (s.idleContexts).ladder = s.ladder := rfl
@[simp] theorem State.idleContexts_store : (s.idleContexts).store = s.store := rfl
@[simp] theorem State.idleContexts_queue : (s.idleContexts).queue = s.queue := rfl
@[simp] theorem State.idleContexts_strap : (s.idleContexts).strap = s.strap := rfl
@[simp] theorem State.idleContexts_port : (s.idleContexts).port = s.port := rfl
@[simp] theorem State.idleContexts_resetLine : (s.idleContexts).resetLine = s.resetLine := rfl
@[simp] theorem State.idleContexts_free : (s.idleContexts).free = s.free := rfl
@[simp] theorem State.idleContexts_pending : (s.idleContexts).pending = s.pending := rfl

/-! `State.setRoster` changes only: membership. -/

@[simp] theorem State.setRoster_claims (i : Station) (e : RosterEntry) : (s.setRoster i e).claims = s.claims := rfl
@[simp] theorem State.setRoster_frame (i : Station) (e : RosterEntry) : (s.setRoster i e).frame = s.frame := rfl
@[simp] theorem State.setRoster_recovery (i : Station) (e : RosterEntry) :
    (s.setRoster i e).recovery = s.recovery := rfl
@[simp] theorem State.setRoster_link (i : Station) (e : RosterEntry) : (s.setRoster i e).link = s.link := rfl
@[simp] theorem State.setRoster_ladder (i : Station) (e : RosterEntry) : (s.setRoster i e).ladder = s.ladder := rfl
@[simp] theorem State.setRoster_capture (i : Station) (e : RosterEntry) : (s.setRoster i e).capture = s.capture := rfl
@[simp] theorem State.setRoster_store (i : Station) (e : RosterEntry) : (s.setRoster i e).store = s.store := rfl
@[simp] theorem State.setRoster_queue (i : Station) (e : RosterEntry) : (s.setRoster i e).queue = s.queue := rfl
@[simp] theorem State.setRoster_strap (i : Station) (e : RosterEntry) : (s.setRoster i e).strap = s.strap := rfl
@[simp] theorem State.setRoster_port (i : Station) (e : RosterEntry) : (s.setRoster i e).port = s.port := rfl
@[simp] theorem State.setRoster_resetLine (i : Station) (e : RosterEntry) :
    (s.setRoster i e).resetLine = s.resetLine := rfl
@[simp] theorem State.setRoster_free (i : Station) (e : RosterEntry) : (s.setRoster i e).free = s.free := rfl
@[simp] theorem State.setRoster_pending (i : Station) (e : RosterEntry) : (s.setRoster i e).pending = s.pending := rfl
@[simp] theorem State.setRoster_membership_state (i : Station) (e : RosterEntry) :
    (s.setRoster i e).membership.state = s.membership.state := rfl
@[simp] theorem State.setRoster_membership_sequence (i : Station) (e : RosterEntry) :
    (s.setRoster i e).membership.sequence = s.membership.sequence := rfl
@[simp] theorem State.setRoster_membership_silence (i : Station) (e : RosterEntry) :
    (s.setRoster i e).membership.silence = s.membership.silence := rfl

/-! `State.setState` changes only: membership. -/

@[simp] theorem State.setState_claims (st : StationState) : (s.setState st).claims = s.claims := rfl
@[simp] theorem State.setState_frame (st : StationState) : (s.setState st).frame = s.frame := rfl
@[simp] theorem State.setState_recovery (st : StationState) : (s.setState st).recovery = s.recovery := rfl
@[simp] theorem State.setState_link (st : StationState) : (s.setState st).link = s.link := rfl
@[simp] theorem State.setState_ladder (st : StationState) : (s.setState st).ladder = s.ladder := rfl
@[simp] theorem State.setState_capture (st : StationState) : (s.setState st).capture = s.capture := rfl
@[simp] theorem State.setState_store (st : StationState) : (s.setState st).store = s.store := rfl
@[simp] theorem State.setState_queue (st : StationState) : (s.setState st).queue = s.queue := rfl
@[simp] theorem State.setState_strap (st : StationState) : (s.setState st).strap = s.strap := rfl
@[simp] theorem State.setState_port (st : StationState) : (s.setState st).port = s.port := rfl
@[simp] theorem State.setState_resetLine (st : StationState) : (s.setState st).resetLine = s.resetLine := rfl
@[simp] theorem State.setState_free (st : StationState) : (s.setState st).free = s.free := rfl
@[simp] theorem State.setState_pending (st : StationState) : (s.setState st).pending = s.pending := rfl
@[simp] theorem State.setState_membership_roster (st : StationState) :
    (s.setState st).membership.roster = s.membership.roster := rfl
@[simp] theorem State.setState_membership_sequence (st : StationState) :
    (s.setState st).membership.sequence = s.membership.sequence := rfl
@[simp] theorem State.setState_membership_silence (st : StationState) :
    (s.setState st).membership.silence = s.membership.silence := rfl

/-! `State.purge` changes only: store. -/

@[simp] theorem State.purge_claims (p : StoreEntry → Bool) : (s.purge p).claims = s.claims := rfl
@[simp] theorem State.purge_frame (p : StoreEntry → Bool) : (s.purge p).frame = s.frame := rfl
@[simp] theorem State.purge_membership (p : StoreEntry → Bool) : (s.purge p).membership = s.membership := rfl
@[simp] theorem State.purge_recovery (p : StoreEntry → Bool) : (s.purge p).recovery = s.recovery := rfl
@[simp] theorem State.purge_link (p : StoreEntry → Bool) : (s.purge p).link = s.link := rfl
@[simp] theorem State.purge_ladder (p : StoreEntry → Bool) : (s.purge p).ladder = s.ladder := rfl
@[simp] theorem State.purge_capture (p : StoreEntry → Bool) : (s.purge p).capture = s.capture := rfl
@[simp] theorem State.purge_queue (p : StoreEntry → Bool) : (s.purge p).queue = s.queue := rfl
@[simp] theorem State.purge_strap (p : StoreEntry → Bool) : (s.purge p).strap = s.strap := rfl
@[simp] theorem State.purge_port (p : StoreEntry → Bool) : (s.purge p).port = s.port := rfl
@[simp] theorem State.purge_resetLine (p : StoreEntry → Bool) : (s.purge p).resetLine = s.resetLine := rfl
@[simp] theorem State.purge_free (p : StoreEntry → Bool) : (s.purge p).free = s.free := rfl
@[simp] theorem State.purge_pending (p : StoreEntry → Bool) : (s.purge p).pending = s.pending := rfl

/-! `State.append` changes only: store. -/

@[simp] theorem State.append_claims (e : StoreEntry) : (s.append e).claims = s.claims := rfl
@[simp] theorem State.append_frame (e : StoreEntry) : (s.append e).frame = s.frame := rfl
@[simp] theorem State.append_membership (e : StoreEntry) : (s.append e).membership = s.membership := rfl
@[simp] theorem State.append_recovery (e : StoreEntry) : (s.append e).recovery = s.recovery := rfl
@[simp] theorem State.append_link (e : StoreEntry) : (s.append e).link = s.link := rfl
@[simp] theorem State.append_ladder (e : StoreEntry) : (s.append e).ladder = s.ladder := rfl
@[simp] theorem State.append_capture (e : StoreEntry) : (s.append e).capture = s.capture := rfl
@[simp] theorem State.append_queue (e : StoreEntry) : (s.append e).queue = s.queue := rfl
@[simp] theorem State.append_strap (e : StoreEntry) : (s.append e).strap = s.strap := rfl
@[simp] theorem State.append_port (e : StoreEntry) : (s.append e).port = s.port := rfl
@[simp] theorem State.append_resetLine (e : StoreEntry) : (s.append e).resetLine = s.resetLine := rfl
@[simp] theorem State.append_free (e : StoreEntry) : (s.append e).free = s.free := rfl
@[simp] theorem State.append_pending (e : StoreEntry) : (s.append e).pending = s.pending := rfl

/-! `State.enqueue` changes only: queue. -/

@[simp] theorem State.enqueue_claims (k : QueueKind) : (s.enqueue k).claims = s.claims := by
  unfold State.enqueue; split <;> rfl
@[simp] theorem State.enqueue_frame (k : QueueKind) : (s.enqueue k).frame = s.frame := by
  unfold State.enqueue; split <;> rfl
@[simp] theorem State.enqueue_membership (k : QueueKind) : (s.enqueue k).membership = s.membership := by
  unfold State.enqueue; split <;> rfl
@[simp] theorem State.enqueue_recovery (k : QueueKind) : (s.enqueue k).recovery = s.recovery := by
  unfold State.enqueue; split <;> rfl
@[simp] theorem State.enqueue_link (k : QueueKind) : (s.enqueue k).link = s.link := by
  unfold State.enqueue; split <;> rfl
@[simp] theorem State.enqueue_ladder (k : QueueKind) : (s.enqueue k).ladder = s.ladder := by
  unfold State.enqueue; split <;> rfl
@[simp] theorem State.enqueue_capture (k : QueueKind) : (s.enqueue k).capture = s.capture := by
  unfold State.enqueue; split <;> rfl
@[simp] theorem State.enqueue_store (k : QueueKind) : (s.enqueue k).store = s.store := by
  unfold State.enqueue; split <;> rfl
@[simp] theorem State.enqueue_strap (k : QueueKind) : (s.enqueue k).strap = s.strap := by
  unfold State.enqueue; split <;> rfl
@[simp] theorem State.enqueue_port (k : QueueKind) : (s.enqueue k).port = s.port := by
  unfold State.enqueue; split <;> rfl
@[simp] theorem State.enqueue_resetLine (k : QueueKind) : (s.enqueue k).resetLine = s.resetLine := by
  unfold State.enqueue; split <;> rfl
@[simp] theorem State.enqueue_free (k : QueueKind) : (s.enqueue k).free = s.free := by
  unfold State.enqueue; split <;> rfl
@[simp] theorem State.enqueue_pending (k : QueueKind) : (s.enqueue k).pending = s.pending := by
  unfold State.enqueue; split <;> rfl

/-! `State.withdraw` changes only: queue, membership. -/

@[simp] theorem State.withdraw_claims (p : QueueKind → Bool) : (s.withdraw p).claims = s.claims := rfl
@[simp] theorem State.withdraw_frame (p : QueueKind → Bool) : (s.withdraw p).frame = s.frame := rfl
@[simp] theorem State.withdraw_recovery (p : QueueKind → Bool) : (s.withdraw p).recovery = s.recovery := rfl
@[simp] theorem State.withdraw_link (p : QueueKind → Bool) : (s.withdraw p).link = s.link := rfl
@[simp] theorem State.withdraw_ladder (p : QueueKind → Bool) : (s.withdraw p).ladder = s.ladder := rfl
@[simp] theorem State.withdraw_capture (p : QueueKind → Bool) : (s.withdraw p).capture = s.capture := rfl
@[simp] theorem State.withdraw_store (p : QueueKind → Bool) : (s.withdraw p).store = s.store := rfl
@[simp] theorem State.withdraw_strap (p : QueueKind → Bool) : (s.withdraw p).strap = s.strap := rfl
@[simp] theorem State.withdraw_port (p : QueueKind → Bool) : (s.withdraw p).port = s.port := rfl
@[simp] theorem State.withdraw_resetLine (p : QueueKind → Bool) : (s.withdraw p).resetLine = s.resetLine := rfl
@[simp] theorem State.withdraw_free (p : QueueKind → Bool) : (s.withdraw p).free = s.free := rfl
@[simp] theorem State.withdraw_pending (p : QueueKind → Bool) : (s.withdraw p).pending = s.pending := rfl
@[simp] theorem State.withdraw_membership_state (p : QueueKind → Bool) :
    (s.withdraw p).membership.state = s.membership.state := rfl
@[simp] theorem State.withdraw_membership_roster (p : QueueKind → Bool) :
    (s.withdraw p).membership.roster = s.membership.roster := rfl
@[simp] theorem State.withdraw_membership_silence (p : QueueKind → Bool) :
    (s.withdraw p).membership.silence = s.membership.silence := rfl

/-! `State.startGrid` changes only: ladder. -/

@[simp] theorem State.startGrid_claims : (s.startGrid).claims = s.claims := rfl
@[simp] theorem State.startGrid_frame : (s.startGrid).frame = s.frame := rfl
@[simp] theorem State.startGrid_membership : (s.startGrid).membership = s.membership := rfl
@[simp] theorem State.startGrid_recovery : (s.startGrid).recovery = s.recovery := rfl
@[simp] theorem State.startGrid_link : (s.startGrid).link = s.link := rfl
@[simp] theorem State.startGrid_capture : (s.startGrid).capture = s.capture := rfl
@[simp] theorem State.startGrid_store : (s.startGrid).store = s.store := rfl
@[simp] theorem State.startGrid_queue : (s.startGrid).queue = s.queue := rfl
@[simp] theorem State.startGrid_strap : (s.startGrid).strap = s.strap := rfl
@[simp] theorem State.startGrid_port : (s.startGrid).port = s.port := rfl
@[simp] theorem State.startGrid_resetLine : (s.startGrid).resetLine = s.resetLine := rfl
@[simp] theorem State.startGrid_free : (s.startGrid).free = s.free := rfl
@[simp] theorem State.startGrid_pending : (s.startGrid).pending = s.pending := rfl
@[simp] theorem State.startGrid_ladder_attempts : (s.startGrid).ladder.attempts = s.ladder.attempts := rfl

/-! `State.setAttempts` changes only: ladder. -/

@[simp] theorem State.setAttempts_claims (n : Nat) : (s.setAttempts n).claims = s.claims := rfl
@[simp] theorem State.setAttempts_frame (n : Nat) : (s.setAttempts n).frame = s.frame := rfl
@[simp] theorem State.setAttempts_membership (n : Nat) : (s.setAttempts n).membership = s.membership := rfl
@[simp] theorem State.setAttempts_recovery (n : Nat) : (s.setAttempts n).recovery = s.recovery := rfl
@[simp] theorem State.setAttempts_link (n : Nat) : (s.setAttempts n).link = s.link := rfl
@[simp] theorem State.setAttempts_capture (n : Nat) : (s.setAttempts n).capture = s.capture := rfl
@[simp] theorem State.setAttempts_store (n : Nat) : (s.setAttempts n).store = s.store := rfl
@[simp] theorem State.setAttempts_queue (n : Nat) : (s.setAttempts n).queue = s.queue := rfl
@[simp] theorem State.setAttempts_strap (n : Nat) : (s.setAttempts n).strap = s.strap := rfl
@[simp] theorem State.setAttempts_port (n : Nat) : (s.setAttempts n).port = s.port := rfl
@[simp] theorem State.setAttempts_resetLine (n : Nat) : (s.setAttempts n).resetLine = s.resetLine := rfl
@[simp] theorem State.setAttempts_free (n : Nat) : (s.setAttempts n).free = s.free := rfl
@[simp] theorem State.setAttempts_pending (n : Nat) : (s.setAttempts n).pending = s.pending := rfl
@[simp] theorem State.setAttempts_ladder_grid (n : Nat) : (s.setAttempts n).ladder.grid = s.ladder.grid := rfl
@[simp] theorem State.setAttempts_ladder_rank (n : Nat) : (s.setAttempts n).ladder.rank = s.ladder.rank := rfl

/-! `State.settleAttempts` changes only: ladder. -/

@[simp] theorem State.settleAttempts_claims : (s.settleAttempts).claims = s.claims := by
  unfold State.settleAttempts; split <;> rfl
@[simp] theorem State.settleAttempts_frame : (s.settleAttempts).frame = s.frame := by
  unfold State.settleAttempts; split <;> rfl
@[simp] theorem State.settleAttempts_membership : (s.settleAttempts).membership = s.membership := by
  unfold State.settleAttempts; split <;> rfl
@[simp] theorem State.settleAttempts_recovery : (s.settleAttempts).recovery = s.recovery := by
  unfold State.settleAttempts; split <;> rfl
@[simp] theorem State.settleAttempts_link : (s.settleAttempts).link = s.link := by
  unfold State.settleAttempts; split <;> rfl
@[simp] theorem State.settleAttempts_capture : (s.settleAttempts).capture = s.capture := by
  unfold State.settleAttempts; split <;> rfl
@[simp] theorem State.settleAttempts_store : (s.settleAttempts).store = s.store := by
  unfold State.settleAttempts; split <;> rfl
@[simp] theorem State.settleAttempts_queue : (s.settleAttempts).queue = s.queue := by
  unfold State.settleAttempts; split <;> rfl
@[simp] theorem State.settleAttempts_strap : (s.settleAttempts).strap = s.strap := by
  unfold State.settleAttempts; split <;> rfl
@[simp] theorem State.settleAttempts_port : (s.settleAttempts).port = s.port := by
  unfold State.settleAttempts; split <;> rfl
@[simp] theorem State.settleAttempts_resetLine : (s.settleAttempts).resetLine = s.resetLine := by
  unfold State.settleAttempts; split <;> rfl
@[simp] theorem State.settleAttempts_free : (s.settleAttempts).free = s.free := by
  unfold State.settleAttempts; split <;> rfl
@[simp] theorem State.settleAttempts_pending : (s.settleAttempts).pending = s.pending := by
  unfold State.settleAttempts; split <;> rfl

/-! `State.setFrameTimer` changes only: frame. -/

@[simp] theorem State.setFrameTimer_claims (b : Bool) : (s.setFrameTimer b).claims = s.claims := rfl
@[simp] theorem State.setFrameTimer_membership (b : Bool) : (s.setFrameTimer b).membership = s.membership := rfl
@[simp] theorem State.setFrameTimer_recovery (b : Bool) : (s.setFrameTimer b).recovery = s.recovery := rfl
@[simp] theorem State.setFrameTimer_link (b : Bool) : (s.setFrameTimer b).link = s.link := rfl
@[simp] theorem State.setFrameTimer_ladder (b : Bool) : (s.setFrameTimer b).ladder = s.ladder := rfl
@[simp] theorem State.setFrameTimer_capture (b : Bool) : (s.setFrameTimer b).capture = s.capture := rfl
@[simp] theorem State.setFrameTimer_store (b : Bool) : (s.setFrameTimer b).store = s.store := rfl
@[simp] theorem State.setFrameTimer_queue (b : Bool) : (s.setFrameTimer b).queue = s.queue := rfl
@[simp] theorem State.setFrameTimer_strap (b : Bool) : (s.setFrameTimer b).strap = s.strap := rfl
@[simp] theorem State.setFrameTimer_port (b : Bool) : (s.setFrameTimer b).port = s.port := rfl
@[simp] theorem State.setFrameTimer_resetLine (b : Bool) : (s.setFrameTimer b).resetLine = s.resetLine := rfl
@[simp] theorem State.setFrameTimer_free (b : Bool) : (s.setFrameTimer b).free = s.free := rfl
@[simp] theorem State.setFrameTimer_pending (b : Bool) : (s.setFrameTimer b).pending = s.pending := rfl
@[simp] theorem State.setFrameTimer_frame_number (b : Bool) : (s.setFrameTimer b).frame.number = s.frame.number := rfl
@[simp] theorem State.setFrameTimer_frame_outstanding (b : Bool) :
    (s.setFrameTimer b).frame.outstanding = s.frame.outstanding := rfl
@[simp] theorem State.setFrameTimer_frame_lastHeard (b : Bool) :
    (s.setFrameTimer b).frame.lastHeard = s.frame.lastHeard := rfl

/-! `State.setQueryTimer` changes only: recovery. -/

@[simp] theorem State.setQueryTimer_claims (b : Bool) : (s.setQueryTimer b).claims = s.claims := rfl
@[simp] theorem State.setQueryTimer_frame (b : Bool) : (s.setQueryTimer b).frame = s.frame := rfl
@[simp] theorem State.setQueryTimer_membership (b : Bool) : (s.setQueryTimer b).membership = s.membership := rfl
@[simp] theorem State.setQueryTimer_link (b : Bool) : (s.setQueryTimer b).link = s.link := rfl
@[simp] theorem State.setQueryTimer_ladder (b : Bool) : (s.setQueryTimer b).ladder = s.ladder := rfl
@[simp] theorem State.setQueryTimer_capture (b : Bool) : (s.setQueryTimer b).capture = s.capture := rfl
@[simp] theorem State.setQueryTimer_store (b : Bool) : (s.setQueryTimer b).store = s.store := rfl
@[simp] theorem State.setQueryTimer_queue (b : Bool) : (s.setQueryTimer b).queue = s.queue := rfl
@[simp] theorem State.setQueryTimer_strap (b : Bool) : (s.setQueryTimer b).strap = s.strap := rfl
@[simp] theorem State.setQueryTimer_port (b : Bool) : (s.setQueryTimer b).port = s.port := rfl
@[simp] theorem State.setQueryTimer_resetLine (b : Bool) : (s.setQueryTimer b).resetLine = s.resetLine := rfl
@[simp] theorem State.setQueryTimer_free (b : Bool) : (s.setQueryTimer b).free = s.free := rfl
@[simp] theorem State.setQueryTimer_pending (b : Bool) : (s.setQueryTimer b).pending = s.pending := rfl
@[simp] theorem State.setQueryTimer_recovery_attempts (b : Bool) :
    (s.setQueryTimer b).recovery.attempts = s.recovery.attempts := rfl
@[simp] theorem State.setQueryTimer_recovery_dumpPending (b : Bool) :
    (s.setQueryTimer b).recovery.dumpPending = s.recovery.dumpPending := rfl

/-! `State.setSilence` changes only: membership. -/

@[simp] theorem State.setSilence_claims (t : SilenceTimer) : (s.setSilence t).claims = s.claims := rfl
@[simp] theorem State.setSilence_frame (t : SilenceTimer) : (s.setSilence t).frame = s.frame := rfl
@[simp] theorem State.setSilence_recovery (t : SilenceTimer) : (s.setSilence t).recovery = s.recovery := rfl
@[simp] theorem State.setSilence_link (t : SilenceTimer) : (s.setSilence t).link = s.link := rfl
@[simp] theorem State.setSilence_ladder (t : SilenceTimer) : (s.setSilence t).ladder = s.ladder := rfl
@[simp] theorem State.setSilence_capture (t : SilenceTimer) : (s.setSilence t).capture = s.capture := rfl
@[simp] theorem State.setSilence_store (t : SilenceTimer) : (s.setSilence t).store = s.store := rfl
@[simp] theorem State.setSilence_queue (t : SilenceTimer) : (s.setSilence t).queue = s.queue := rfl
@[simp] theorem State.setSilence_strap (t : SilenceTimer) : (s.setSilence t).strap = s.strap := rfl
@[simp] theorem State.setSilence_port (t : SilenceTimer) : (s.setSilence t).port = s.port := rfl
@[simp] theorem State.setSilence_resetLine (t : SilenceTimer) : (s.setSilence t).resetLine = s.resetLine := rfl
@[simp] theorem State.setSilence_free (t : SilenceTimer) : (s.setSilence t).free = s.free := rfl
@[simp] theorem State.setSilence_pending (t : SilenceTimer) : (s.setSilence t).pending = s.pending := rfl
@[simp] theorem State.setSilence_membership_state (t : SilenceTimer) :
    (s.setSilence t).membership.state = s.membership.state := rfl
@[simp] theorem State.setSilence_membership_roster (t : SilenceTimer) :
    (s.setSilence t).membership.roster = s.membership.roster := rfl
@[simp] theorem State.setSilence_membership_sequence (t : SilenceTimer) :
    (s.setSilence t).membership.sequence = s.membership.sequence := rfl

/-! `State.startSilence` changes only: membership. -/

@[simp] theorem State.startSilence_claims : (s.startSilence).claims = s.claims := rfl
@[simp] theorem State.startSilence_frame : (s.startSilence).frame = s.frame := rfl
@[simp] theorem State.startSilence_recovery : (s.startSilence).recovery = s.recovery := rfl
@[simp] theorem State.startSilence_link : (s.startSilence).link = s.link := rfl
@[simp] theorem State.startSilence_ladder : (s.startSilence).ladder = s.ladder := rfl
@[simp] theorem State.startSilence_capture : (s.startSilence).capture = s.capture := rfl
@[simp] theorem State.startSilence_store : (s.startSilence).store = s.store := rfl
@[simp] theorem State.startSilence_queue : (s.startSilence).queue = s.queue := rfl
@[simp] theorem State.startSilence_strap : (s.startSilence).strap = s.strap := rfl
@[simp] theorem State.startSilence_port : (s.startSilence).port = s.port := rfl
@[simp] theorem State.startSilence_resetLine : (s.startSilence).resetLine = s.resetLine := rfl
@[simp] theorem State.startSilence_free : (s.startSilence).free = s.free := rfl
@[simp] theorem State.startSilence_pending : (s.startSilence).pending = s.pending := rfl

/-! `State.enterMuted` changes only: queue, store, link, capture, frame, membership, recovery, port. -/

@[simp] theorem State.enterMuted_claims (c : MuteCause) (w : StateCause) : (s.enterMuted c w).claims = s.claims := by
  simp [State.enterMuted]
@[simp] theorem State.enterMuted_ladder (c : MuteCause) (w : StateCause) : (s.enterMuted c w).ladder = s.ladder := by
  simp [State.enterMuted]
@[simp] theorem State.enterMuted_strap (c : MuteCause) (w : StateCause) : (s.enterMuted c w).strap = s.strap := by
  simp [State.enterMuted]
@[simp] theorem State.enterMuted_resetLine (c : MuteCause) (w : StateCause) :
    (s.enterMuted c w).resetLine = s.resetLine := by
  simp [State.enterMuted]
@[simp] theorem State.enterMuted_free (c : MuteCause) (w : StateCause) : (s.enterMuted c w).free = s.free := by
  simp [State.enterMuted]
@[simp] theorem State.enterMuted_pending (c : MuteCause) (w : StateCause) :
    (s.enterMuted c w).pending = s.pending := by
  simp [State.enterMuted]

/-! `State.clearPlan` changes only: store, queue, capture, claims, frame, membership, recovery, ladder. -/

@[simp] theorem State.clearPlan_link : (s.clearPlan).link = s.link := rfl
@[simp] theorem State.clearPlan_strap : (s.clearPlan).strap = s.strap := rfl
@[simp] theorem State.clearPlan_port : (s.clearPlan).port = s.port := rfl
@[simp] theorem State.clearPlan_resetLine : (s.clearPlan).resetLine = s.resetLine := rfl
@[simp] theorem State.clearPlan_free : (s.clearPlan).free = s.free := rfl
@[simp] theorem State.clearPlan_pending : (s.clearPlan).pending = s.pending := rfl

/-! `State.enterLeft` changes only: store, queue, capture, claims, frame, membership, recovery, ladder, port. -/

@[simp] theorem State.enterLeft_link : (s.enterLeft).link = s.link := by
  simp [State.enterLeft]
@[simp] theorem State.enterLeft_strap : (s.enterLeft).strap = s.strap := by
  simp [State.enterLeft]
@[simp] theorem State.enterLeft_resetLine : (s.enterLeft).resetLine = s.resetLine := by
  simp [State.enterLeft]
@[simp] theorem State.enterLeft_free : (s.enterLeft).free = s.free := by
  simp [State.enterLeft]
@[simp] theorem State.enterLeft_pending : (s.enterLeft).pending = s.pending := by
  simp [State.enterLeft]

end Sys2Proof.Machine
end

