-- ==== Sys2Proof/Laws/Ops.lean ====
section
/-! SUPPORT. What each shared operation does, said once: later proofs cite these and unfold no operation. -/

namespace Sys2Proof.Machine

variable (s : State)

/-! ### Banks -/

theorem State.setSlot_slotAt (n m : SlotNo) (sl : Slot) :
    (s.setSlot n sl).slotAt m = if m = n then sl else s.slotAt m := by
  simp only [State.setSlot, State.slotAt, Fin.getElem_fin, Vector.getElem_set, Fin.ext_iff]
  split <;> rename_i h <;> simp [eq_comm] at h ⊢ <;> simp [h]

@[simp] theorem State.setSlot_slotAt_same (n : SlotNo) (sl : Slot) : (s.setSlot n sl).slotAt n = sl := by
  simp [State.setSlot_slotAt]

theorem State.setSlot_slotAt_other {n m : SlotNo} (h : m ≠ n) (sl : Slot) : (s.setSlot n sl).slotAt m = s.slotAt m := by
  simp [State.setSlot_slotAt, h]

theorem State.setContext_contextAt (n m : SlotNo) (c : Context) :
    (s.setContext n c).contextAt m = if m = n then c else s.contextAt m := by
  simp only [State.setContext, State.contextAt, Fin.getElem_fin, Vector.getElem_set, Fin.ext_iff]
  split <;> rename_i h <;> simp [eq_comm] at h ⊢ <;> simp [h]

theorem State.setRoster_rosterAt (i j : Station) (e : RosterEntry) :
    (s.setRoster i e).rosterAt j = if j = i then e else s.rosterAt j := by
  simp only [State.setRoster, State.rosterAt, Fin.getElem_fin, Vector.getElem_set, Fin.ext_iff]
  split <;> rename_i h <;> simp [eq_comm] at h ⊢ <;> simp [h]

@[simp] theorem State.idleContexts_contextAt (n : SlotNo) : s.idleContexts.contextAt n = .idle := by
  simp only [State.idleContexts, State.contextAt]
  exact tab4_get (fun _ => Context.idle) n

/-! ### Slot order -/

/-- The four slots are served one after the other, 0 to 3. -/
theorem State.forSlots_eq (f : State → SlotNo → State) : s.forSlots f = f (f (f (f s 0) 1) 2) 3 := rfl

/-- What serving one slot keeps, serving them all keeps. -/
theorem State.forSlots_keeps {P : State → Prop} {f : State → SlotNo → State} (hf : ∀ t n, P t → P (f t n)) (h : P s) :
    P (s.forSlots f) := by
  rw [State.forSlots_eq]
  exact hf _ _ (hf _ _ (hf _ _ (hf _ _ h)))

/-- A reading that serving one slot leaves alone, serving them all leaves alone. -/
theorem State.forSlots_reads {α : Type} (g : State → α) {f : State → SlotNo → State} (hf : ∀ t n, g (f t n) = g t) :
    g (s.forSlots f) = g s :=
  s.forSlots_keeps (P := fun t => g t = g s) (fun t n h => (hf t n).trans h) rfl

/-! ### Notices (R201) -/

/-- R201: the notice joins the tail, or, with eight waiting, is dropped and counted. -/
theorem State.deposit_cases (n : Notice) :
    (s.port.notices.length < 8 ∧ (s.deposit n).port.notices = s.port.notices ++ [n] ∧
      (s.deposit n).port.noticesLost = s.port.noticesLost) ∨
    (8 ≤ s.port.notices.length ∧ (s.deposit n).port.notices = s.port.notices ∧
      (s.deposit n).port.noticesLost = satInc8 s.port.noticesLost) := by
  unfold State.deposit
  split
  · exact .inl ⟨‹_›, rfl, rfl⟩
  · exact .inr ⟨by omega, rfl, rfl⟩

/-- R201: a deposit keeps the queue within eight notices. -/
theorem State.deposit_bounded (n : Notice) (h : s.port.notices.length ≤ 8) : (s.deposit n).port.notices.length ≤ 8 := by
  rcases s.deposit_cases n with ⟨hl, he, -⟩ | ⟨-, he, -⟩
  · rw [he]; simp; omega
  · rw [he]; exact h

/-! ### The control queue (R162 to R168) -/

/-- R163: the cell joins the tail, or its place is taken and nothing changes. -/
theorem State.enqueue_cases (k : QueueKind) :
    (s.queues k = true ∧ s.enqueue k = s) ∨
    (s.queues k = false ∧ s.enqueue k = { s with queue := s.queue ++ [⟨k, none, false⟩] }) := by
  unfold State.enqueue
  split
  · exact .inl ⟨‹_›, rfl⟩
  · rename_i h
    exact .inr ⟨Bool.eq_false_iff.2 h, rfl⟩

/-- R162: queueing keeps one cell to a place. -/
theorem State.enqueue_places (k : QueueKind) (h : (s.queue.map fun c => c.kind.place).Nodup) :
    ((s.enqueue k).queue.map fun c => c.kind.place).Nodup := by
  rcases s.enqueue_cases k with ⟨-, he⟩ | ⟨hq, he⟩
  · rw [he]; exact h
  · rw [he]
    simp only [List.map_append, List.map_cons, List.map_nil]
    refine List.nodup_append.2 ⟨h, by simp, ?_⟩
    intro a ha b hb
    simp only [List.mem_singleton] at hb
    subst hb
    rintro rfl
    obtain ⟨c, hc, hk⟩ := List.mem_map.1 ha
    have : s.queues k = true := List.any_eq_true.2 ⟨c, hc, by simp [hk]⟩
    simp [this] at hq

/-- R165: a withdrawal leaves the other cells in their order. -/
theorem State.withdraw_queue (p : QueueKind → Bool) :
    (s.withdraw p).queue = s.queue.filter fun c => !(p c.kind && !c.inFlight) := rfl

/-- R70, R165: the counter falls by one for each withdrawn cell that was given a number. -/
theorem State.withdraw_sequence (p : QueueKind → Bool) :
    (s.withdraw p).membership.sequence = s.membership.sequence -
      BitVec.ofNat 8 (s.queue.countP fun c => (p c.kind && !c.inFlight) && c.given.isSome) := rfl

theorem State.mem_withdraw {p : QueueKind → Bool} {c : QueuedCell} :
    c ∈ (s.withdraw p).queue ↔ c ∈ s.queue ∧ (p c.kind = false ∨ c.inFlight = true) := by
  rw [State.withdraw_queue, List.mem_filter]
  cases p c.kind <;> cases c.inFlight <;> simp

/-- R162: a withdrawal keeps one cell to a place. -/
theorem State.withdraw_places (p : QueueKind → Bool) (h : (s.queue.map fun c => c.kind.place).Nodup) :
    ((s.withdraw p).queue.map fun c => c.kind.place).Nodup := by
  rw [State.withdraw_queue]
  exact h.sublist (List.filter_sublist.map _)

/-! ### The line store (R155, R156, R160) -/

theorem State.mem_purge {p : StoreEntry → Bool} {e : StoreEntry} :
    e ∈ (s.purge p).store ↔ e ∈ s.store ∧ p e = false := by
  simp [State.purge, List.mem_filter]

theorem storeRows_filter (p : StoreEntry → Bool) (l : List StoreEntry) : storeRows (l.filter p) ≤ storeRows l := by
  unfold storeRows
  exact List.filter_sublist.countP_le

theorem storeBytes_filter (p : StoreEntry → Bool) (l : List StoreEntry) : storeBytes (l.filter p) ≤ storeBytes l := by
  unfold storeBytes
  exact (List.filter_sublist.map _).sum_le_sum (by intros; exact Nat.zero_le _)

@[simp] theorem storeRows_append (l m : List StoreEntry) : storeRows (l ++ m) = storeRows l + storeRows m := by
  simp [storeRows]

@[simp] theorem storeBytes_append (l m : List StoreEntry) : storeBytes (l ++ m) = storeBytes l + storeBytes m := by
  simp [storeBytes]

@[simp] theorem storeMarkers_append (l m : List StoreEntry) : storeMarkers (l ++ m) = storeMarkers l + storeMarkers m := by
  simp [storeMarkers]

/-- R156: the test under which a row joins the store. -/
theorem storeTakes_iff (l : List StoreEntry) (n : Nat) :
    storeTakes l n = true ↔ storeRows l < 60 ∧ storeBytes l + n ≤ 65536 := by
  simp [storeTakes]

/-! ### Sets as data (R32, R78) -/

theorem mem_keySet {p : TileKey → Bool} {k : TileKey} : k ∈ keySet p ↔ p k = true := by
  simp only [keySet, List.mem_filter, allKeys, List.mem_flatMap, List.mem_map]
  constructor
  · exact fun h => h.2
  · exact fun h => ⟨⟨k.owner, mem_stationOrder _, k.slot, mem_slotOrder _, rfl⟩, h⟩

theorem mem_stationSet {p : Station → Bool} {i : Station} : i ∈ stationSet p ↔ p i = true := by
  simp [stationSet, List.mem_filter]

/-! ### Counts -/

theorem satAdd_toNat (c : Word) (n : Nat) : (satAdd c n).toNat = min (c.toNat + n) 65535 := by
  unfold satAdd
  split <;> simp <;> omega

theorem satInc8_toNat (c : Byte) : (satInc8 c).toNat = min (c.toNat + 1) 255 := by
  unfold satInc8
  split
  · subst c; rfl
  · have := c.isLt
    have hne : c.toNat ≠ 255 := fun h => ‹¬_› (BitVec.eq_of_toNat_eq h)
    simp [BitVec.toNat_add]; omega

/-! ### Bytes and words -/

/-- A word read back from its two bytes. -/
theorem wordAt_wordBytes (w : Word) (rest : List Byte) : wordAt (wordBytes w ++ rest) 0 = w := by
  simp only [wordAt, wordBytes, List.cons_append, List.getD_cons_succ, List.getD_cons_zero]
  exact BitVec.eq_of_getLsbD_eq fun i hi => by
    simp only [BitVec.getLsbD_append, BitVec.getLsbD_extractLsb']
    by_cases h : i < 8
    · simp [h]
    · have : i - 8 < 8 := by omega
      simp [h, this]
      congr 1; omega

/-! ### Timers and the ladder -/

/-- R128 at the end of an event. -/
theorem State.settleAttempts_cases :
    s.settleAttempts = s ∨ (s.isMuted = false ∧ s.contends = false ∧ s.settleAttempts = s.setAttempts 0) := by
  unfold State.settleAttempts
  split
  · exact .inl rfl
  · rename_i h
    simp only [Bool.or_eq_true, not_or, Bool.not_eq_true] at h
    exact .inr ⟨h.1, h.2, rfl⟩

/-- R118, R119: the grid runs before slot 0, ranked from L. -/
theorem State.startGrid_ladder :
    s.startGrid.ladder = ⟨.running none, rankOf s.own s.link.lastSender, s.ladder.attempts⟩ := rfl

/-! ### MUTED and LEFT (R74, R77) -/

@[simp] theorem State.enterMuted_queue (c : MuteCause) (w : StateCause) : (s.enterMuted c w).queue = [] := by
  simp [State.enterMuted]

@[simp] theorem State.enterMuted_store (c : MuteCause) (w : StateCause) : (s.enterMuted c w).store = [] := by
  simp [State.enterMuted]

@[simp] theorem State.enterMuted_state (c : MuteCause) (w : StateCause) :
    (s.enterMuted c w).membership.state = .muted c := by
  simp [State.enterMuted]

@[simp] theorem State.enterMuted_flight (c : MuteCause) (w : StateCause) : (s.enterMuted c w).link.flight = none := by
  simp [State.enterMuted]

@[simp] theorem State.enterMuted_transmitter (c : MuteCause) (w : StateCause) :
    (s.enterMuted c w).link.transmitter = .idle := by
  simp [State.enterMuted]

@[simp] theorem State.enterLeft_state : s.enterLeft.membership.state = .left := by
  simp [State.enterLeft, State.setState]

@[simp] theorem State.enterLeft_queue : s.enterLeft.queue = [] := by
  simp [State.enterLeft, State.clearPlan]

@[simp] theorem State.enterLeft_store : s.enterLeft.store = [] := by
  simp [State.enterLeft, State.clearPlan]

/-! ### The strap transaction -/

/-- R175: the data bits clocked in are those of the 72 bytes, each most significant bit first. -/
theorem strapSignals_data (bytes : List Byte) (h : bytes.length = 72) :
    ((strapSignals (.image bytes)).filterMap fun x => match x with
      | .clocked b => some b
      | _ => none) = bitsOfBytes bytes := by
  have hb : (List.range 72).map (fun k => bytes.getD k 0) = bytes := by
    apply List.ext_getElem
    · simp [h]
    · intro i _ hi
      simp [hi]
  conv_rhs => rw [← hb]
  simp [strapSignals, sentByte, clockedByte, bitsOfBytes, List.filterMap_flatMap, List.flatMap_map, List.filterMap_append,
    List.flatMap_cons]

end Sys2Proof.Machine
end

