-- ==== Sys2Proof/Laws/Frames.lean ====
section
/-! SUPPORT. What the compound operations of the plan leave as it is: one frame lemma an operation, from the slot rules up
to a cell's end. -/

namespace Sys2Proof.Machine

variable (s : State)

@[simp] theorem State.claimIfReady_frame (n : SlotNo) :
    (s.claimIfReady n).frame = s.frame ∧ (s.claimIfReady n).membership = s.membership ∧
    (s.claimIfReady n).recovery = s.recovery ∧ (s.claimIfReady n).link = s.link ∧
    (s.claimIfReady n).ladder = s.ladder ∧ (s.claimIfReady n).capture = s.capture ∧
    (s.claimIfReady n).store = s.store ∧ (s.claimIfReady n).strap = s.strap ∧ (s.claimIfReady n).port = s.port ∧
    (s.claimIfReady n).resetLine = s.resetLine ∧ (s.claimIfReady n).free = s.free ∧
    (s.claimIfReady n).pending = s.pending ∧ (s.claimIfReady n).claims.table = s.claims.table ∧
    (s.claimIfReady n).claims.removalMark = s.claims.removalMark := by
  unfold State.claimIfReady
  split <;> simp

@[simp] theorem State.serveClaims_frame :
    (s.serveClaims).frame = s.frame ∧ (s.serveClaims).membership = s.membership ∧
    (s.serveClaims).recovery = s.recovery ∧ (s.serveClaims).link = s.link ∧ (s.serveClaims).ladder = s.ladder ∧
    (s.serveClaims).capture = s.capture ∧ (s.serveClaims).store = s.store ∧ (s.serveClaims).strap = s.strap ∧
    (s.serveClaims).port = s.port ∧ (s.serveClaims).resetLine = s.resetLine ∧ (s.serveClaims).free = s.free ∧
    (s.serveClaims).pending = s.pending ∧ (s.serveClaims).claims.table = s.claims.table ∧
    (s.serveClaims).claims.removalMark = s.claims.removalMark := by
  refine ⟨?_, ?_, ?_, ?_, ?_, ?_, ?_, ?_, ?_, ?_, ?_, ?_, ?_, ?_⟩
  · exact s.forSlots_reads (State.frame) fun t n => by simp
  · exact s.forSlots_reads (State.membership) fun t n => by simp
  · exact s.forSlots_reads (State.recovery) fun t n => by simp
  · exact s.forSlots_reads (State.link) fun t n => by simp
  · exact s.forSlots_reads (State.ladder) fun t n => by simp
  · exact s.forSlots_reads (State.capture) fun t n => by simp
  · exact s.forSlots_reads (State.store) fun t n => by simp
  · exact s.forSlots_reads (State.strap) fun t n => by simp
  · exact s.forSlots_reads (State.port) fun t n => by simp
  · exact s.forSlots_reads (State.resetLine) fun t n => by simp
  · exact s.forSlots_reads (State.free) fun t n => by simp
  · exact s.forSlots_reads (State.pending) fun t n => by simp
  · exact s.forSlots_reads (fun t => t.claims.table) fun t n => by simp
  · exact s.forSlots_reads (fun t => t.claims.removalMark) fun t n => by simp

@[simp] theorem State.releaseIfDue_frame (n : SlotNo) :
    (s.releaseIfDue n).claims = s.claims ∧ (s.releaseIfDue n).frame = s.frame ∧
    (s.releaseIfDue n).membership = s.membership ∧ (s.releaseIfDue n).recovery = s.recovery ∧
    (s.releaseIfDue n).link = s.link ∧ (s.releaseIfDue n).ladder = s.ladder ∧
    (s.releaseIfDue n).capture = s.capture ∧ (s.releaseIfDue n).store = s.store ∧
    (s.releaseIfDue n).strap = s.strap ∧ (s.releaseIfDue n).port = s.port ∧
    (s.releaseIfDue n).resetLine = s.resetLine ∧ (s.releaseIfDue n).free = s.free ∧
    (s.releaseIfDue n).pending = s.pending := by
  unfold State.releaseIfDue
  split <;> simp

@[simp] theorem State.serveReleases_frame :
    (s.serveReleases).claims = s.claims ∧ (s.serveReleases).frame = s.frame ∧
    (s.serveReleases).membership = s.membership ∧ (s.serveReleases).recovery = s.recovery ∧
    (s.serveReleases).link = s.link ∧ (s.serveReleases).ladder = s.ladder ∧ (s.serveReleases).capture = s.capture ∧
    (s.serveReleases).store = s.store ∧ (s.serveReleases).strap = s.strap ∧ (s.serveReleases).port = s.port ∧
    (s.serveReleases).resetLine = s.resetLine ∧ (s.serveReleases).free = s.free ∧
    (s.serveReleases).pending = s.pending := by
  refine ⟨?_, ?_, ?_, ?_, ?_, ?_, ?_, ?_, ?_, ?_, ?_, ?_, ?_⟩
  · exact s.forSlots_reads (State.claims) fun t n => by simp
  · exact s.forSlots_reads (State.frame) fun t n => by simp
  · exact s.forSlots_reads (State.membership) fun t n => by simp
  · exact s.forSlots_reads (State.recovery) fun t n => by simp
  · exact s.forSlots_reads (State.link) fun t n => by simp
  · exact s.forSlots_reads (State.ladder) fun t n => by simp
  · exact s.forSlots_reads (State.capture) fun t n => by simp
  · exact s.forSlots_reads (State.store) fun t n => by simp
  · exact s.forSlots_reads (State.strap) fun t n => by simp
  · exact s.forSlots_reads (State.port) fun t n => by simp
  · exact s.forSlots_reads (State.resetLine) fun t n => by simp
  · exact s.forSlots_reads (State.free) fun t n => by simp
  · exact s.forSlots_reads (State.pending) fun t n => by simp

@[simp] theorem State.startSlot_frame (n : SlotNo) :
    (s.startSlot n).frame = s.frame ∧ (s.startSlot n).membership = s.membership ∧
    (s.startSlot n).recovery = s.recovery ∧ (s.startSlot n).link = s.link ∧ (s.startSlot n).ladder = s.ladder ∧
    (s.startSlot n).capture = s.capture ∧ (s.startSlot n).store = s.store ∧ (s.startSlot n).queue = s.queue ∧
    (s.startSlot n).strap = s.strap ∧ (s.startSlot n).resetLine = s.resetLine ∧ (s.startSlot n).free = s.free ∧
    (s.startSlot n).pending = s.pending ∧ (s.startSlot n).claims.table = s.claims.table ∧
    (s.startSlot n).claims.removalMark = s.claims.removalMark := by
  unfold State.startSlot
  split <;> simp

@[simp] theorem State.startOnSlots_frame :
    (s.startOnSlots).frame = s.frame ∧ (s.startOnSlots).membership = s.membership ∧
    (s.startOnSlots).recovery = s.recovery ∧ (s.startOnSlots).link = s.link ∧ (s.startOnSlots).ladder = s.ladder ∧
    (s.startOnSlots).capture = s.capture ∧ (s.startOnSlots).store = s.store ∧ (s.startOnSlots).queue = s.queue ∧
    (s.startOnSlots).strap = s.strap ∧ (s.startOnSlots).resetLine = s.resetLine ∧ (s.startOnSlots).free = s.free ∧
    (s.startOnSlots).pending = s.pending ∧ (s.startOnSlots).claims.table = s.claims.table ∧
    (s.startOnSlots).claims.removalMark = s.claims.removalMark := by
  simp [State.startOnSlots, State.forSlots_eq]

@[simp] theorem State.memberCells_frame :
    (s.memberCells).frame = s.frame ∧ (s.memberCells).membership = s.membership ∧
    (s.memberCells).recovery = s.recovery ∧ (s.memberCells).link = s.link ∧ (s.memberCells).ladder = s.ladder ∧
    (s.memberCells).capture = s.capture ∧ (s.memberCells).store = s.store ∧ (s.memberCells).strap = s.strap ∧
    (s.memberCells).resetLine = s.resetLine ∧ (s.memberCells).free = s.free ∧ (s.memberCells).pending = s.pending ∧
    (s.memberCells).claims.table = s.claims.table ∧ (s.memberCells).claims.removalMark = s.claims.removalMark := by
  simp [State.memberCells]

@[simp] theorem State.claimAccepted_frame (n : SlotNo) :
    (s.claimAccepted n).frame = s.frame ∧ (s.claimAccepted n).membership = s.membership ∧
    (s.claimAccepted n).recovery = s.recovery ∧ (s.claimAccepted n).link = s.link ∧
    (s.claimAccepted n).ladder = s.ladder ∧ (s.claimAccepted n).capture = s.capture ∧
    (s.claimAccepted n).store = s.store ∧ (s.claimAccepted n).strap = s.strap ∧
    (s.claimAccepted n).resetLine = s.resetLine ∧ (s.claimAccepted n).free = s.free ∧
    (s.claimAccepted n).pending = s.pending ∧ (s.claimAccepted n).claims.table = s.claims.table ∧
    (s.claimAccepted n).claims.removalMark = s.claims.removalMark := by
  unfold State.claimAccepted
  split <;> simp

@[simp] theorem State.claimRefused_frame (n : SlotNo) (w : ClaimRefusal) :
    (s.claimRefused n w).frame = s.frame ∧ (s.claimRefused n w).membership = s.membership ∧
    (s.claimRefused n w).recovery = s.recovery ∧ (s.claimRefused n w).link = s.link ∧
    (s.claimRefused n w).ladder = s.ladder ∧ (s.claimRefused n w).capture = s.capture ∧
    (s.claimRefused n w).store = s.store ∧ (s.claimRefused n w).strap = s.strap ∧
    (s.claimRefused n w).resetLine = s.resetLine ∧ (s.claimRefused n w).pending = s.pending ∧
    (s.claimRefused n w).claims.table = s.claims.table ∧
    (s.claimRefused n w).claims.removalMark = s.claims.removalMark := by
  cases w <;> simp [State.claimRefused]

@[simp] theorem State.applyClaim_frame (i : Station) (b : ClaimBody) (c : Option Crop) :
    (s.applyClaim i b c).frame = s.frame ∧ (s.applyClaim i b c).membership = s.membership ∧
    (s.applyClaim i b c).recovery = s.recovery ∧ (s.applyClaim i b c).link = s.link ∧
    (s.applyClaim i b c).ladder = s.ladder ∧ (s.applyClaim i b c).capture = s.capture ∧
    (s.applyClaim i b c).store = s.store ∧ (s.applyClaim i b c).strap = s.strap ∧
    (s.applyClaim i b c).resetLine = s.resetLine ∧ (s.applyClaim i b c).pending = s.pending := by
  unfold State.applyClaim
  cases s.judgeClaim i b <;> cases c <;> simp

@[simp] theorem State.slotReleased_frame (n : SlotNo) :
    (s.slotReleased n).frame = s.frame ∧ (s.slotReleased n).membership = s.membership ∧
    (s.slotReleased n).recovery = s.recovery ∧ (s.slotReleased n).link = s.link ∧
    (s.slotReleased n).ladder = s.ladder ∧ (s.slotReleased n).capture = s.capture ∧
    (s.slotReleased n).store = s.store ∧ (s.slotReleased n).queue = s.queue ∧ (s.slotReleased n).strap = s.strap ∧
    (s.slotReleased n).resetLine = s.resetLine ∧ (s.slotReleased n).free = s.free ∧
    (s.slotReleased n).pending = s.pending ∧ (s.slotReleased n).claims.table = s.claims.table ∧
    (s.slotReleased n).claims.removalMark = s.claims.removalMark := by
  unfold State.slotReleased
  split <;> simp

@[simp] theorem State.applyRelease_frame (i : Station) (b : Byte) (own : Bool) :
    (s.applyRelease i b own).frame = s.frame ∧ (s.applyRelease i b own).membership = s.membership ∧
    (s.applyRelease i b own).recovery = s.recovery ∧ (s.applyRelease i b own).link = s.link ∧
    (s.applyRelease i b own).ladder = s.ladder ∧ (s.applyRelease i b own).capture = s.capture ∧
    (s.applyRelease i b own).store = s.store ∧ (s.applyRelease i b own).queue = s.queue ∧
    (s.applyRelease i b own).strap = s.strap ∧ (s.applyRelease i b own).resetLine = s.resetLine ∧
    (s.applyRelease i b own).free = s.free ∧ (s.applyRelease i b own).pending = s.pending := by
  unfold State.applyRelease
  repeat' (first | split | simp)

@[simp] theorem State.byeTable_frame (i : Station) :
    (s.byeTable i).frame = s.frame ∧ (s.byeTable i).membership = s.membership ∧
    (s.byeTable i).recovery = s.recovery ∧ (s.byeTable i).link = s.link ∧ (s.byeTable i).ladder = s.ladder ∧
    (s.byeTable i).capture = s.capture ∧ (s.byeTable i).store = s.store ∧ (s.byeTable i).queue = s.queue ∧
    (s.byeTable i).strap = s.strap ∧ (s.byeTable i).port = s.port ∧ (s.byeTable i).resetLine = s.resetLine ∧
    (s.byeTable i).free = s.free ∧ (s.byeTable i).pending = s.pending := by
  simp [State.byeTable]

@[simp] theorem State.byeRoster_frame (i : Station) :
    (s.byeRoster i).claims = s.claims ∧ (s.byeRoster i).frame = s.frame ∧ (s.byeRoster i).recovery = s.recovery ∧
    (s.byeRoster i).link = s.link ∧ (s.byeRoster i).ladder = s.ladder ∧ (s.byeRoster i).capture = s.capture ∧
    (s.byeRoster i).store = s.store ∧ (s.byeRoster i).queue = s.queue ∧ (s.byeRoster i).strap = s.strap ∧
    (s.byeRoster i).port = s.port ∧ (s.byeRoster i).resetLine = s.resetLine ∧ (s.byeRoster i).free = s.free ∧
    (s.byeRoster i).pending = s.pending ∧ (s.byeRoster i).membership.state = s.membership.state ∧
    (s.byeRoster i).membership.sequence = s.membership.sequence ∧
    (s.byeRoster i).membership.silence = s.membership.silence := by
  unfold State.byeRoster
  split <;> simp

@[simp] theorem slotPass_frame (mark : Bool) (removed : List Entry) (n : SlotNo) :
    (slotPass mark removed s n).frame = s.frame ∧ (slotPass mark removed s n).membership = s.membership ∧
    (slotPass mark removed s n).recovery = s.recovery ∧ (slotPass mark removed s n).link = s.link ∧
    (slotPass mark removed s n).ladder = s.ladder ∧ (slotPass mark removed s n).capture = s.capture ∧
    (slotPass mark removed s n).store = s.store ∧ (slotPass mark removed s n).queue = s.queue ∧
    (slotPass mark removed s n).strap = s.strap ∧ (slotPass mark removed s n).resetLine = s.resetLine ∧
    (slotPass mark removed s n).free = s.free ∧ (slotPass mark removed s n).pending = s.pending ∧
    (slotPass mark removed s n).claims.table = s.claims.table ∧
    (slotPass mark removed s n).claims.removalMark = s.claims.removalMark := by
  unfold slotPass
  repeat' (first | split | simp)

@[simp] theorem State.openTable_frame :
    (s.openTable).frame = s.frame ∧ (s.openTable).recovery = s.recovery ∧ (s.openTable).link = s.link ∧
    (s.openTable).ladder = s.ladder ∧ (s.openTable).capture = s.capture ∧ (s.openTable).store = s.store ∧
    (s.openTable).strap = s.strap ∧ (s.openTable).resetLine = s.resetLine ∧ (s.openTable).free = s.free ∧
    (s.openTable).pending = s.pending ∧ (s.openTable).membership.state = s.membership.state ∧
    (s.openTable).membership.sequence = s.membership.sequence ∧
    (s.openTable).membership.silence = s.membership.silence := by
  simp [State.openTable, State.forSlots_eq]

@[simp] theorem State.openFrame_frame :
    (s.openFrame).claims = s.claims ∧ (s.openFrame).recovery = s.recovery ∧ (s.openFrame).link = s.link ∧
    (s.openFrame).ladder = s.ladder ∧ (s.openFrame).capture = s.capture ∧ (s.openFrame).store = s.store ∧
    (s.openFrame).strap = s.strap ∧ (s.openFrame).port = s.port ∧ (s.openFrame).resetLine = s.resetLine ∧
    (s.openFrame).free = s.free ∧ (s.openFrame).pending = s.pending ∧
    (s.openFrame).membership.state = s.membership.state ∧ (s.openFrame).membership.roster = s.membership.roster ∧
    (s.openFrame).membership.silence = s.membership.silence ∧ (s.openFrame).frame.lastHeard = s.frame.lastHeard := by
  simp [State.openFrame]

@[simp] theorem State.scheduleHello_frame :
    (s.scheduleHello).frame = s.frame ∧ (s.scheduleHello).membership = s.membership ∧
    (s.scheduleHello).recovery = s.recovery ∧ (s.scheduleHello).link = s.link ∧ (s.scheduleHello).ladder = s.ladder ∧
    (s.scheduleHello).capture = s.capture ∧ (s.scheduleHello).store = s.store ∧ (s.scheduleHello).strap = s.strap ∧
    (s.scheduleHello).port = s.port ∧ (s.scheduleHello).resetLine = s.resetLine ∧ (s.scheduleHello).free = s.free ∧
    (s.scheduleHello).pending = s.pending ∧ (s.scheduleHello).claims.table = s.claims.table ∧
    (s.scheduleHello).claims.removalMark = s.claims.removalMark := by
  unfold State.scheduleHello
  split <;> simp

@[simp] theorem cutSlot_frame (f : Word) (n : SlotNo) :
    (cutSlot f s n).claims = s.claims ∧ (cutSlot f s n).frame = s.frame ∧ (cutSlot f s n).membership = s.membership ∧
    (cutSlot f s n).recovery = s.recovery ∧ (cutSlot f s n).link = s.link ∧ (cutSlot f s n).ladder = s.ladder ∧
    (cutSlot f s n).queue = s.queue ∧ (cutSlot f s n).strap = s.strap ∧ (cutSlot f s n).resetLine = s.resetLine ∧
    (cutSlot f s n).free = s.free ∧ (cutSlot f s n).pending = s.pending ∧
    (cutSlot f s n).capture.inFrame = s.capture.inFrame ∧ (cutSlot f s n).capture.rowCounter = s.capture.rowCounter := by
  unfold cutSlot
  split <;> simp

@[simp] theorem State.armContexts_frame :
    (s.armContexts).claims = s.claims ∧ (s.armContexts).frame = s.frame ∧ (s.armContexts).membership = s.membership ∧
    (s.armContexts).recovery = s.recovery ∧ (s.armContexts).link = s.link ∧ (s.armContexts).ladder = s.ladder ∧
    (s.armContexts).store = s.store ∧ (s.armContexts).queue = s.queue ∧ (s.armContexts).strap = s.strap ∧
    (s.armContexts).port = s.port ∧ (s.armContexts).resetLine = s.resetLine ∧ (s.armContexts).free = s.free ∧
    (s.armContexts).pending = s.pending ∧ (s.armContexts).capture.inFrame = s.capture.inFrame ∧
    (s.armContexts).capture.rowCounter = s.capture.rowCounter := by
  simp [State.armContexts]

@[simp] theorem State.closeFrame_frame (c : CloseCause) :
    (s.closeFrame c).recovery = s.recovery ∧ (s.closeFrame c).link = s.link ∧ (s.closeFrame c).ladder = s.ladder ∧
    (s.closeFrame c).strap = s.strap ∧ (s.closeFrame c).resetLine = s.resetLine ∧ (s.closeFrame c).free = s.free ∧
    (s.closeFrame c).pending = s.pending ∧ (s.closeFrame c).membership.state = s.membership.state ∧
    (s.closeFrame c).membership.silence = s.membership.silence ∧
    (s.closeFrame c).capture.inFrame = s.capture.inFrame ∧ (s.closeFrame c).capture.rowCounter = s.capture.rowCounter := by
  cases c <;> simp [State.closeFrame, State.forSlots_eq]

@[simp] theorem State.completeTile_frame (k : TileKey) :
    (s.completeTile k).recovery = s.recovery ∧ (s.completeTile k).link = s.link ∧
    (s.completeTile k).ladder = s.ladder ∧ (s.completeTile k).strap = s.strap ∧
    (s.completeTile k).resetLine = s.resetLine ∧ (s.completeTile k).free = s.free ∧
    (s.completeTile k).pending = s.pending ∧ (s.completeTile k).membership.state = s.membership.state ∧
    (s.completeTile k).membership.silence = s.membership.silence ∧
    (s.completeTile k).capture.inFrame = s.capture.inFrame ∧
    (s.completeTile k).capture.rowCounter = s.capture.rowCounter := by
  unfold State.completeTile
  repeat' (first | split | simp)

@[simp] theorem State.applyBye_frame (i : Station) (own : Bool) :
    (s.applyBye i own).link = s.link ∧ (s.applyBye i own).strap = s.strap ∧
    (s.applyBye i own).resetLine = s.resetLine ∧ (s.applyBye i own).free = s.free ∧
    (s.applyBye i own).pending = s.pending := by
  unfold State.applyBye
  cases own <;> simp only [Bool.false_eq_true, ↓reduceIte] <;> split <;> simp

@[simp] theorem State.installPlan_frame (h : Header) (d : DumpBody) :
    (s.installPlan h d).link = s.link ∧ (s.installPlan h d).ladder = s.ladder ∧
    (s.installPlan h d).capture = s.capture ∧ (s.installPlan h d).store = s.store ∧
    (s.installPlan h d).queue = s.queue ∧ (s.installPlan h d).strap = s.strap ∧ (s.installPlan h d).port = s.port ∧
    (s.installPlan h d).resetLine = s.resetLine ∧ (s.installPlan h d).free = s.free ∧
    (s.installPlan h d).pending = s.pending ∧ (s.installPlan h d).membership.state = s.membership.state ∧
    (s.installPlan h d).membership.silence = s.membership.silence ∧
    (s.installPlan h d).membership.sequence = s.membership.sequence ∧
    (s.installPlan h d).recovery.dumpPending = s.recovery.dumpPending ∧
    (s.installPlan h d).frame.lastHeard = s.frame.lastHeard ∧ (s.installPlan h d).claims.slots = s.claims.slots := by
  simp [State.installPlan]

@[simp] theorem State.installLocal_frame :
    (s.installLocal).claims = s.claims ∧ (s.installLocal).frame = s.frame ∧
    (s.installLocal).membership = s.membership ∧ (s.installLocal).recovery = s.recovery ∧
    (s.installLocal).link = s.link ∧ (s.installLocal).ladder = s.ladder ∧ (s.installLocal).queue = s.queue ∧
    (s.installLocal).strap = s.strap ∧ (s.installLocal).port = s.port ∧ (s.installLocal).resetLine = s.resetLine ∧
    (s.installLocal).free = s.free ∧ (s.installLocal).pending = s.pending ∧
    (s.installLocal).capture.inFrame = s.capture.inFrame ∧ (s.installLocal).capture.rowCounter = s.capture.rowCounter := by
  simp [State.installLocal]

@[simp] theorem State.rederiveSlot_frame (n : SlotNo) :
    (s.rederiveSlot n).frame = s.frame ∧ (s.rederiveSlot n).membership = s.membership ∧
    (s.rederiveSlot n).recovery = s.recovery ∧ (s.rederiveSlot n).link = s.link ∧
    (s.rederiveSlot n).ladder = s.ladder ∧ (s.rederiveSlot n).capture = s.capture ∧
    (s.rederiveSlot n).store = s.store ∧ (s.rederiveSlot n).queue = s.queue ∧ (s.rederiveSlot n).strap = s.strap ∧
    (s.rederiveSlot n).resetLine = s.resetLine ∧ (s.rederiveSlot n).free = s.free ∧
    (s.rederiveSlot n).pending = s.pending ∧ (s.rederiveSlot n).claims.table = s.claims.table ∧
    (s.rederiveSlot n).claims.removalMark = s.claims.removalMark := by
  unfold State.rederiveSlot
  simp only []
  split <;> simp

@[simp] theorem State.suspectSlot_frame (n : SlotNo) :
    (s.suspectSlot n).frame = s.frame ∧ (s.suspectSlot n).membership = s.membership ∧
    (s.suspectSlot n).recovery = s.recovery ∧ (s.suspectSlot n).link = s.link ∧ (s.suspectSlot n).ladder = s.ladder ∧
    (s.suspectSlot n).capture = s.capture ∧ (s.suspectSlot n).store = s.store ∧ (s.suspectSlot n).queue = s.queue ∧
    (s.suspectSlot n).strap = s.strap ∧ (s.suspectSlot n).resetLine = s.resetLine ∧ (s.suspectSlot n).free = s.free ∧
    (s.suspectSlot n).pending = s.pending ∧ (s.suspectSlot n).claims.table = s.claims.table ∧
    (s.suspectSlot n).claims.removalMark = s.claims.removalMark := by
  unfold State.suspectSlot
  split <;> simp

@[simp] theorem State.enterSuspect_frame (w : StateCause) :
    (s.enterSuspect w).frame = s.frame ∧ (s.enterSuspect w).link = s.link ∧ (s.enterSuspect w).ladder = s.ladder ∧
    (s.enterSuspect w).capture = s.capture ∧ (s.enterSuspect w).store = s.store ∧
    (s.enterSuspect w).strap = s.strap ∧ (s.enterSuspect w).resetLine = s.resetLine ∧
    (s.enterSuspect w).free = s.free ∧ (s.enterSuspect w).pending = s.pending ∧
    (s.enterSuspect w).claims.table = s.claims.table ∧ (s.enterSuspect w).claims.removalMark = s.claims.removalMark ∧
    (s.enterSuspect w).membership.roster = s.membership.roster ∧
    (s.enterSuspect w).membership.silence = s.membership.silence ∧
    (s.enterSuspect w).recovery.timerRunning = s.recovery.timerRunning := by
  simp [State.enterSuspect, State.forSlots_eq]

@[simp] theorem State.install_frame (h : Header) (d : DumpBody) :
    (s.install h d).link = s.link ∧ (s.install h d).ladder = s.ladder ∧ (s.install h d).strap = s.strap ∧
    (s.install h d).resetLine = s.resetLine ∧ (s.install h d).free = s.free ∧ (s.install h d).pending = s.pending ∧
    (s.install h d).membership.silence = s.membership.silence ∧
    (s.install h d).recovery.dumpPending = s.recovery.dumpPending ∧
    (s.install h d).capture.inFrame = s.capture.inFrame ∧ (s.install h d).capture.rowCounter = s.capture.rowCounter ∧
    (s.install h d).frame.lastHeard = s.frame.lastHeard := by
  unfold State.install
  cases s.isMember <;> simp [State.forSlots_eq]

@[simp] theorem State.requestersServed_frame (d : DumpBody) :
    (s.requestersServed d).claims = s.claims ∧ (s.requestersServed d).frame = s.frame ∧
    (s.requestersServed d).link = s.link ∧ (s.requestersServed d).ladder = s.ladder ∧
    (s.requestersServed d).capture = s.capture ∧ (s.requestersServed d).store = s.store ∧
    (s.requestersServed d).strap = s.strap ∧ (s.requestersServed d).port = s.port ∧
    (s.requestersServed d).resetLine = s.resetLine ∧ (s.requestersServed d).free = s.free ∧
    (s.requestersServed d).pending = s.pending ∧
    (s.requestersServed d).recovery.timerRunning = s.recovery.timerRunning ∧
    (s.requestersServed d).recovery.attempts = s.recovery.attempts ∧
    (s.requestersServed d).membership.state = s.membership.state ∧
    (s.requestersServed d).membership.roster = s.membership.roster ∧
    (s.requestersServed d).membership.silence = s.membership.silence := by
  unfold State.requestersServed
  simp only []
  split <;> simp

@[simp] theorem State.answerQuery_frame (i : Station) :
    (s.answerQuery i).claims = s.claims ∧ (s.answerQuery i).frame = s.frame ∧
    (s.answerQuery i).membership = s.membership ∧ (s.answerQuery i).link = s.link ∧
    (s.answerQuery i).ladder = s.ladder ∧ (s.answerQuery i).capture = s.capture ∧ (s.answerQuery i).store = s.store ∧
    (s.answerQuery i).strap = s.strap ∧ (s.answerQuery i).port = s.port ∧ (s.answerQuery i).resetLine = s.resetLine ∧
    (s.answerQuery i).free = s.free ∧ (s.answerQuery i).pending = s.pending ∧
    (s.answerQuery i).recovery.timerRunning = s.recovery.timerRunning ∧
    (s.answerQuery i).recovery.attempts = s.recovery.attempts := by
  simp [State.answerQuery]

@[simp] theorem State.abandonNotices_frame :
    (s.abandonNotices).claims = s.claims ∧ (s.abandonNotices).frame = s.frame ∧
    (s.abandonNotices).membership = s.membership ∧ (s.abandonNotices).recovery = s.recovery ∧
    (s.abandonNotices).link = s.link ∧ (s.abandonNotices).ladder = s.ladder ∧
    (s.abandonNotices).capture = s.capture ∧ (s.abandonNotices).store = s.store ∧
    (s.abandonNotices).queue = s.queue ∧ (s.abandonNotices).strap = s.strap ∧
    (s.abandonNotices).resetLine = s.resetLine ∧ (s.abandonNotices).free = s.free ∧
    (s.abandonNotices).pending = s.pending := by
  simp [State.abandonNotices]

@[simp] theorem State.selfTrust_frame :
    (s.selfTrust).link = s.link ∧ (s.selfTrust).ladder = s.ladder ∧ (s.selfTrust).capture = s.capture ∧
    (s.selfTrust).store = s.store ∧ (s.selfTrust).strap = s.strap ∧ (s.selfTrust).resetLine = s.resetLine ∧
    (s.selfTrust).free = s.free ∧ (s.selfTrust).pending = s.pending ∧ (s.selfTrust).claims.table = s.claims.table ∧
    (s.selfTrust).claims.removalMark = s.claims.removalMark ∧ (s.selfTrust).frame.number = s.frame.number ∧
    (s.selfTrust).frame.outstanding = s.frame.outstanding ∧ (s.selfTrust).membership.roster = s.membership.roster ∧
    (s.selfTrust).membership.silence = s.membership.silence ∧
    (s.selfTrust).recovery.dumpPending = s.recovery.dumpPending := by
  simp [State.selfTrust]

@[simp] theorem State.syncingFallback_frame :
    (s.syncingFallback).link = s.link ∧ (s.syncingFallback).ladder = s.ladder ∧
    (s.syncingFallback).capture = s.capture ∧ (s.syncingFallback).store = s.store ∧
    (s.syncingFallback).strap = s.strap ∧ (s.syncingFallback).resetLine = s.resetLine ∧
    (s.syncingFallback).free = s.free ∧ (s.syncingFallback).pending = s.pending ∧
    (s.syncingFallback).frame.lastHeard = s.frame.lastHeard ∧
    (s.syncingFallback).membership.sequence = s.membership.sequence ∧
    (s.syncingFallback).membership.silence = s.membership.silence ∧
    (s.syncingFallback).recovery.dumpPending = s.recovery.dumpPending := by
  simp [State.syncingFallback]

@[simp] theorem State.live_frame (i : Station) :
    (s.live i).claims = s.claims ∧ (s.live i).frame = s.frame ∧ (s.live i).recovery = s.recovery ∧
    (s.live i).link = s.link ∧ (s.live i).ladder = s.ladder ∧ (s.live i).capture = s.capture ∧
    (s.live i).store = s.store ∧ (s.live i).queue = s.queue ∧ (s.live i).strap = s.strap ∧ (s.live i).port = s.port ∧
    (s.live i).resetLine = s.resetLine ∧ (s.live i).free = s.free ∧ (s.live i).pending = s.pending ∧
    (s.live i).membership.state = s.membership.state ∧ (s.live i).membership.sequence = s.membership.sequence ∧
    (s.live i).membership.silence = s.membership.silence := by
  unfold State.live
  split <;> simp

@[simp] theorem State.recordSequence_frame (i : Station) (q : Byte) :
    (s.recordSequence i q).claims = s.claims ∧ (s.recordSequence i q).frame = s.frame ∧
    (s.recordSequence i q).recovery = s.recovery ∧ (s.recordSequence i q).link = s.link ∧
    (s.recordSequence i q).ladder = s.ladder ∧ (s.recordSequence i q).capture = s.capture ∧
    (s.recordSequence i q).store = s.store ∧ (s.recordSequence i q).queue = s.queue ∧
    (s.recordSequence i q).strap = s.strap ∧ (s.recordSequence i q).port = s.port ∧
    (s.recordSequence i q).resetLine = s.resetLine ∧ (s.recordSequence i q).free = s.free ∧
    (s.recordSequence i q).pending = s.pending ∧ (s.recordSequence i q).membership.state = s.membership.state ∧
    (s.recordSequence i q).membership.sequence = s.membership.sequence ∧
    (s.recordSequence i q).membership.silence = s.membership.silence := by
  simp [State.recordSequence]

@[simp] theorem State.ownHello_frame :
    (s.ownHello).frame = s.frame ∧ (s.ownHello).recovery = s.recovery ∧ (s.ownHello).link = s.link ∧
    (s.ownHello).ladder = s.ladder ∧ (s.ownHello).capture = s.capture ∧ (s.ownHello).store = s.store ∧
    (s.ownHello).strap = s.strap ∧ (s.ownHello).port = s.port ∧ (s.ownHello).resetLine = s.resetLine ∧
    (s.ownHello).free = s.free ∧ (s.ownHello).pending = s.pending ∧ (s.ownHello).claims.table = s.claims.table ∧
    (s.ownHello).claims.removalMark = s.claims.removalMark ∧ (s.ownHello).membership.state = s.membership.state ∧
    (s.ownHello).membership.sequence = s.membership.sequence ∧ (s.ownHello).membership.silence = s.membership.silence := by
  unfold State.ownHello
  split <;> simp

@[simp] theorem State.peerHello_frame (i : Station) (b : HelloBody) :
    (s.peerHello i b).claims = s.claims ∧ (s.peerHello i b).frame = s.frame ∧
    (s.peerHello i b).recovery = s.recovery ∧ (s.peerHello i b).link = s.link ∧ (s.peerHello i b).ladder = s.ladder ∧
    (s.peerHello i b).capture = s.capture ∧ (s.peerHello i b).store = s.store ∧ (s.peerHello i b).queue = s.queue ∧
    (s.peerHello i b).strap = s.strap ∧ (s.peerHello i b).resetLine = s.resetLine ∧ (s.peerHello i b).free = s.free ∧
    (s.peerHello i b).pending = s.pending ∧ (s.peerHello i b).membership.state = s.membership.state ∧
    (s.peerHello i b).membership.sequence = s.membership.sequence ∧
    (s.peerHello i b).membership.silence = s.membership.silence := by
  unfold State.peerHello
  repeat' (first | split | simp)

@[simp] theorem State.helloPart_frame (k : Kind) (c : FrameClass) (h : Header) (p : Option (List Byte)) (own : Bool) :
    (s.helloPart k c h p own).frame = s.frame ∧ (s.helloPart k c h p own).recovery = s.recovery ∧
    (s.helloPart k c h p own).link = s.link ∧ (s.helloPart k c h p own).ladder = s.ladder ∧
    (s.helloPart k c h p own).capture = s.capture ∧ (s.helloPart k c h p own).store = s.store ∧
    (s.helloPart k c h p own).strap = s.strap ∧ (s.helloPart k c h p own).resetLine = s.resetLine ∧
    (s.helloPart k c h p own).free = s.free ∧ (s.helloPart k c h p own).pending = s.pending ∧
    (s.helloPart k c h p own).claims.table = s.claims.table ∧
    (s.helloPart k c h p own).claims.removalMark = s.claims.removalMark ∧
    (s.helloPart k c h p own).membership.state = s.membership.state ∧
    (s.helloPart k c h p own).membership.sequence = s.membership.sequence ∧
    (s.helloPart k c h p own).membership.silence = s.membership.silence := by
  unfold State.helloPart
  repeat' (first | split | simp)

@[simp] theorem State.countBehind_frame (k : Kind) :
    (s.countBehind k).claims = s.claims ∧ (s.countBehind k).frame = s.frame ∧
    (s.countBehind k).membership = s.membership ∧ (s.countBehind k).recovery = s.recovery ∧
    (s.countBehind k).link = s.link ∧ (s.countBehind k).ladder = s.ladder ∧ (s.countBehind k).capture = s.capture ∧
    (s.countBehind k).store = s.store ∧ (s.countBehind k).queue = s.queue ∧ (s.countBehind k).strap = s.strap ∧
    (s.countBehind k).resetLine = s.resetLine ∧ (s.countBehind k).free = s.free ∧
    (s.countBehind k).pending = s.pending := by
  simp [State.countBehind]

@[simp] theorem State.currentCell_frame (k : Kind) (h : Header) (b : Option (List Byte)) (own : Option Flight) :
    (s.currentCell k h b own).link = s.link ∧ (s.currentCell k h b own).strap = s.strap ∧
    (s.currentCell k h b own).resetLine = s.resetLine ∧ (s.currentCell k h b own).pending = s.pending := by
  unfold State.currentCell
  repeat' (first | split | simp)

@[simp] theorem State.queryCell_frame (i : Station) (own : Bool) :
    (s.queryCell i own).link = s.link ∧ (s.queryCell i own).strap = s.strap ∧
    (s.queryCell i own).resetLine = s.resetLine ∧ (s.queryCell i own).pending = s.pending := by
  unfold State.queryCell
  repeat' (first | split | simp)

@[simp] theorem State.dumpCell_frame (h : Header) (p : List Byte) (own : Bool) :
    (s.dumpCell h p own).link = s.link ∧ (s.dumpCell h p own).strap = s.strap ∧
    (s.dumpCell h p own).resetLine = s.resetLine ∧ (s.dumpCell h p own).pending = s.pending := by
  unfold State.dumpCell
  simp only []
  repeat' (first | split | simp)

@[simp] theorem State.kindRules_frame (k : Kind) (c : FrameClass) (h : Header) (p : Option (List Byte)) (own : Option Flight) :
    (s.kindRules k c h p own).link = s.link ∧ (s.kindRules k c h p own).strap = s.strap ∧
    (s.kindRules k c h p own).resetLine = s.resetLine ∧ (s.kindRules k c h p own).pending = s.pending := by
  unfold State.kindRules
  repeat' (first | split | simp)

@[simp] theorem State.planCell_frame (h : Header) (p : Option (List Byte)) (own : Option Flight) :
    (s.planCell h p own).link = s.link ∧ (s.planCell h p own).strap = s.strap ∧
    (s.planCell h p own).resetLine = s.resetLine ∧ (s.planCell h p own).pending = s.pending := by
  unfold State.planCell
  simp only []
  repeat' (first | split | simp)

@[simp] theorem State.listenCell_frame (h : Header) (p : Option (List Byte)) :
    (s.listenCell h p).strap = s.strap ∧ (s.listenCell h p).resetLine = s.resetLine ∧
    (s.listenCell h p).pending = s.pending := by
  unfold State.listenCell
  split <;> simp [State.recordFrame]

@[simp] theorem State.syncingCell_frame (h : Header) (p : Option (List Byte)) (own : Bool) :
    (s.syncingCell h p own).strap = s.strap ∧ (s.syncingCell h p own).resetLine = s.resetLine ∧
    (s.syncingCell h p own).pending = s.pending := by
  unfold State.syncingCell
  simp only []
  repeat' (first | split | simp [State.recordFrame])

@[simp] theorem State.units_frame (h : Header) (p : Option (List Byte)) (own : Option Flight) :
    (s.units h p own).strap = s.strap ∧ (s.units h p own).resetLine = s.resetLine ∧
    (s.units h p own).pending = s.pending := by
  unfold State.units
  repeat' (first | split | simp)

@[simp] theorem State.handOver_frame (c : CellClass) (own : Option Flight) :
    (s.handOver c own).strap = s.strap ∧ (s.handOver c own).resetLine = s.resetLine ∧
    (s.handOver c own).pending = s.pending := by
  cases c <;> simp [State.handOver]

@[simp] theorem State.receiverPart_frame (j : Judged) :
    (s.receiverPart j).claims = s.claims ∧ (s.receiverPart j).frame = s.frame ∧
    (s.receiverPart j).recovery = s.recovery ∧ (s.receiverPart j).capture = s.capture ∧
    (s.receiverPart j).store = s.store ∧ (s.receiverPart j).queue = s.queue ∧ (s.receiverPart j).strap = s.strap ∧
    (s.receiverPart j).resetLine = s.resetLine ∧ (s.receiverPart j).free = s.free ∧
    (s.receiverPart j).pending = s.pending ∧ (s.receiverPart j).membership.state = s.membership.state ∧
    (s.receiverPart j).membership.roster = s.membership.roster ∧
    (s.receiverPart j).membership.sequence = s.membership.sequence ∧ (s.receiverPart j).link.flight = s.link.flight ∧
    (s.receiverPart j).link.busy = s.link.busy ∧ (s.receiverPart j).link.receiver = s.link.receiver ∧
    (s.receiverPart j).link.transmitter = s.link.transmitter ∧
    (s.receiverPart j).ladder.attempts = s.ladder.attempts ∧ (s.receiverPart j).port.notices = s.port.notices := by
  unfold State.receiverPart
  simp only []
  split <;> simp

@[simp] theorem State.withdrawOffAfter_frame (n : SlotNo) :
    (s.withdrawOffAfter n).frame = s.frame ∧ (s.withdrawOffAfter n).recovery = s.recovery ∧
    (s.withdrawOffAfter n).link = s.link ∧ (s.withdrawOffAfter n).ladder = s.ladder ∧
    (s.withdrawOffAfter n).capture = s.capture ∧ (s.withdrawOffAfter n).store = s.store ∧
    (s.withdrawOffAfter n).strap = s.strap ∧ (s.withdrawOffAfter n).resetLine = s.resetLine ∧
    (s.withdrawOffAfter n).free = s.free ∧ (s.withdrawOffAfter n).pending = s.pending ∧
    (s.withdrawOffAfter n).claims.table = s.claims.table ∧
    (s.withdrawOffAfter n).claims.removalMark = s.claims.removalMark ∧
    (s.withdrawOffAfter n).membership.state = s.membership.state ∧
    (s.withdrawOffAfter n).membership.roster = s.membership.roster ∧
    (s.withdrawOffAfter n).membership.silence = s.membership.silence := by
  unfold State.withdrawOffAfter
  split <;> simp

@[simp] theorem State.ownCellLeaves_frame (c : CellSource) :
    (s.ownCellLeaves c).claims = s.claims ∧ (s.ownCellLeaves c).frame = s.frame ∧
    (s.ownCellLeaves c).membership = s.membership ∧ (s.ownCellLeaves c).recovery = s.recovery ∧
    (s.ownCellLeaves c).link = s.link ∧ (s.ownCellLeaves c).capture = s.capture ∧
    (s.ownCellLeaves c).strap = s.strap ∧ (s.ownCellLeaves c).resetLine = s.resetLine ∧
    (s.ownCellLeaves c).pending = s.pending ∧ (s.ownCellLeaves c).port = s.port := by
  cases c <;> simp [State.ownCellLeaves]

@[simp] theorem State.ownCellAborted_frame (c : CellSource) (m : Bool) :
    (s.ownCellAborted c m).strap = s.strap ∧ (s.ownCellAborted c m).resetLine = s.resetLine ∧
    (s.ownCellAborted c m).pending = s.pending := by
  unfold State.ownCellAborted
  simp only []
  cases m <;> repeat' (first | split | simp)

@[simp] theorem State.cellJudged_frame (j : Judged) :
    (s.cellJudged j).strap = s.strap ∧ (s.cellJudged j).resetLine = s.resetLine ∧ (s.cellJudged j).pending = s.pending := by
  unfold State.cellJudged
  repeat' (first | split | simp)

@[simp] theorem State.cellEnds_frame (j : Judged) :
    (s.cellEnds j).strap = s.strap ∧ (s.cellEnds j).resetLine = s.resetLine ∧ (s.cellEnds j).pending = s.pending := by
  unfold State.cellEnds
  simp only []
  repeat' (first | split | simp)

end Sys2Proof.Machine
end

