-- ==== Sys2Proof/Tests/Slice0.lean ====
section
/-! SUPPORT. Tests of the TS-416 model: the manual's examples, one step of each command on small states, and a witness
for the hypotheses of every statement. -/

open Sys2Proof Sys2Proof.Machine

namespace Sys2Proof.Tests

set_option maxRecDepth 100000

/-! ### Small states -/

/-- The state a command answers with. -/
def after (i : Instr) (s : State) : State :=
  match exec i s with
  | .next t => t
  | .fault _ => s
  | .refused _ => s

/-- An image of station 3 in the rig of chapter 12: COLOR, hello interval 4, roster timeout 6, divider 4, F 2, silence
window 300, 1024 by 768, slot 0 enabled as RGB565 (0, 384, 0, 512); the last word makes the sum 0. -/
def words : List Word :=
  [0x53A1, 0x6403, 4, 2, 300, 1024, 768, 0x8002, 0, 384, 0, 512, 0, 0] ++ List.replicate 21 0 ++ [0xBCA8]

def image : List Byte := words.flatMap wordBytes

def listening : State := after (.strapAttemptEnd (.image image)) State.reset

def tile30 : Entry := ⟨3, 0, .rgb565, .held, ⟨0, 384, 0, 512⟩, some ⟨⟨0, 0⟩, 0⟩⟩

def tile91 : Entry := ⟨9, 1, .rgb888, .held, ⟨384, 384, 0, 512⟩, none⟩

def slot0 (st : SlotState) : Slot := ⟨.rgb565, ⟨0, 384, 0, 512⟩, ⟨0, 0⟩, st, false, false⟩

/-- Station 3, MEMBER in frame 42 with station 9, both tiles outstanding. -/
def member : State := { listening with
  claims := ⟨[tile30, tile91], false, tab4 fun n => if n = 0 then slot0 .active else listening.slotAt n⟩
  frame := ⟨42, [⟨3, 0⟩, ⟨9, 1⟩], true, 0⟩
  membership := ⟨.member, tab16 fun i =>
    if i = 3 then ⟨true, 0, false, 7⟩ else if i = 9 then ⟨true, 0, false, 5⟩ else ⟨false, 0, false, 0⟩, 7, .stopped⟩
  capture := ⟨tab4 fun n => if n = 0 then .armed 42 else .idle, false, 0⟩
  port := { listening.port with notices := [] } }

def inState (st : StationState) (s : State) : State := { s with membership := { s.membership with state := st } }

def queued (q : List QueuedCell) (s : State) : State := { s with queue := q }

def waits (k : QueueKind) : QueuedCell := ⟨k, none, false⟩

def sent (k : QueueKind) : QueuedCell := ⟨k, some 7, true⟩

def suspect : State := queued [waits .query] (inState .suspect { member with recovery := ⟨false, 1, []⟩ })

def syncing : State := queued [waits .query] (inState .syncing { listening with
  frame := ⟨0, [], false, 42⟩
  membership := { listening.membership with silence := .stopped }
  recovery := ⟨false, 1, []⟩
  claims := ⟨[], false, tab4 fun n => listening.slotAt n⟩ })

def left : State := inState .left { listening with membership := { listening.membership with silence := .stopped } }

def muted : State := member.enterMuted .duplicate .duplicate

/-- The own slot 0 in this state. -/
def with0 (sl : Slot) (s : State) : State :=
  { s with claims := { s.claims with slots := tab4 fun n => if n = 0 then sl else s.slotAt n } }

/-- A reply waits. -/
def replied (s : State) : State := { s with port := { s.port with reply := some ⟨.done, [3, 3, 5], false⟩ } }

def asserted (s : State) : State := { s with resetLine := true }

/-- Context 0 has taken `next` rows of its tile and missed `missed` of them. -/
def capturing (next missed : Nat) (s : State) : State :=
  { s with capture := ⟨tab4 fun n => if n = 0 then .capturing 42 next missed else .idle, true, next⟩ }

/-- One pixel of R 200, G 100, B 50 (section 7.9). -/
def pixel : BitVec 24 := 0xC86432

/-! ### Cells -/

def cell (kind : BitVec 4) (sender : Station) (frame : Word) (q : Byte) (payload : List Byte) : Cell :=
  ⟨⟨kind, sender, frame, q, BitVec.ofNat 12 payload.length, 0, 0⟩, payload⟩

def tile (sender : Station) (frame : Word) (flags : BitVec 4) (aux : Word) (payload : List Byte) : Cell :=
  ⟨⟨4, sender, frame, 0, BitVec.ofNat 12 payload.length, flags, aux⟩, payload⟩

/-- What is on the pair when the cell is sent and nothing disturbs it. -/
def signal (c : Cell) : List Level := untilIdle (cellSignal c)

/-- The same, one payload bit wrong: header-heard. -/
def spoiled (c : Cell) : List Level :=
  let bits := cellBits c
  untilIdle (List.replicate 8 dominant ++ [recessive] ++ stuff recessive 1 (bits.set 75 (!bits.getD 75 false)))

/-- Levels written as the lengths of their runs, dominant first. -/
def runsFrom (lvl : Level) : List Nat → List Level
  | [] => []
  | n :: rest => List.replicate n lvl ++ runsFrom (!lvl) rest

def runs : List Nat → List Level := runsFrom dominant

/-- The own cell of the first queued cell has been sent with this report. -/
def onLink (c : Cell) (source : CellSource) (r : Report) (s : State) : State :=
  { s with link := { s.link with busy := true, flight := some ⟨c, source, ⟨0, 0⟩, r⟩ }
           ladder := { s.ladder with grid := .stopped } }

/-- A HELLO of the rig's parameters with this digest and present set. -/
def helloPayload (digest present : Word) : List Byte := (HelloBody.bytes ⟨1024, 768, 6, digest, present⟩)

/-- A DUMP from 9 that names these requesters, with tile 9.1 alone, outstanding; 3 and 9 PRESENT. -/
def dumpPayload (requesters : Word) : List Byte :=
  DumpBody.bytes ⟨requesters, [tile91], 1, member.membership.roster⟩

/-! ### WellFormed refuses -/

theorem wf_refuses_image_of_71_bytes : (Instr.strapAttemptEnd (.image (List.replicate 71 0))).wf = false := by decide
theorem wf_refuses_levels_that_start_recessive : (Instr.cellEnd (runs [0, 1, 8, 10])).wf = false := by decide
theorem wf_refuses_levels_with_an_idle_inside : (Instr.cellEnd (runs [8, 10, 1, 10])).wf = false := by decide
theorem wf_refuses_levels_that_go_on_past_idle : (Instr.cellEnd (runs [8, 11])).wf = false := by decide
theorem wf_refuses_levels_without_idle : (Instr.cellEnd (runs [8, 9])).wf = false := by decide
theorem wf_refuses_no_levels : (Instr.cellEnd []).wf = false := by decide
theorem wf_accepts_a_pulse : (Instr.cellEnd (runs [1, 10])).wf = true := by decide
theorem wf_refuses_read_window_of_no_byte : (Instr.readWindow 0).wf = false := by decide
theorem wf_refuses_window_of_no_byte : (Instr.requestWindow []).wf = false := by decide
theorem wf_refuses_window_that_is_a_notice : (Instr.requestWindow [0x05, 0x00, 0xFB]).wf = false := by decide
theorem wf_refuses_window_that_is_a_read : (Instr.requestWindow [0x00, 0x05]).wf = false := by decide
theorem wf_refuses_body_of_256_bytes : (Instr.status (List.replicate 256 0)).wf = false := by decide
theorem wf_accepts_body_of_255_bytes : (Instr.reset (List.replicate 255 0)).wf = true := by decide

/-! ### The manual's examples -/

/-- Sections 5.3 and 11.2. -/
theorem test_crc_of_the_nine_digits : crc16 [0x31, 0x32, 0x33, 0x34, 0x35, 0x36, 0x37, 0x38, 0x39] = 0x29B1 := by decide
theorem test_digest_of_an_empty_table : tableDigest [] = 0xFFFF := by decide

/-- Section 11.3. -/
theorem test_entry_record_of_held_mono8 :
    (Entry.record false ⟨9, 1, .mono8, .held, ⟨0, 1, 0, 16⟩, none⟩).take 2 = [0x19, 0x04] := by decide

/-- Section 11.4. -/
theorem test_strap_word_1 :
    strapNumber [0x53A1, 0x6415] = 5 ∧ strapSensor [0x53A1, 0x6415] = .mono ∧ strapHelloInterval [0x53A1, 0x6415] = 4 ∧
    strapRosterTimeout [0x53A1, 0x6415] = 6 := by decide

/-- Section 9.2: a divider word of 0x0101 fails. -/
theorem test_divider_is_judged_whole : judgeFields (words.set 2 0x0101) = some .divider := by decide
theorem test_image_passes : judgeImage words = none := by decide

/-- Section 11.5: the two request frames, most significant bit first. -/
theorem test_window_notice : decodeWindow (bitsOfBytes [0x05, 0x00, 0xFB]) = some (.notice []) := by decide
theorem test_window_slot_off_1 : decodeWindow
    [false, false, false, false, false, true, true, false, false, false, false, false, false, false, false, true,
      false, false, false, false, false, false, false, true, true, true, true, true, true, false, false, false] =
    some (.slotOff [1]) := by decide
theorem test_window_with_bad_check :
    decodeWindowBytes [0x05, 0x00, 0xFA] = some (.requestWindow [0x05, 0x00, 0xFA]) := by decide

/-- Section 11.5. -/
theorem test_waiting_full_reads_13 : (slot0 (.waiting .full)).statusByte = 0x13 := by decide
theorem test_notice_reply : Reply.bytes ⟨.done, Notice.bytes (.state .member .install), false⟩ =
    [0x01, 0x03, 0x00, 0x03, 0x03, 0x05, 0xF1] := by decide
theorem test_overrun_reply : Reply.bytes ⟨.done, Notice.bytes (.state .member .install), true⟩ =
    [0x81, 0x03, 0x00, 0x03, 0x03, 0x05, 0x71] := by decide

/-- Section 7.9. -/
theorem test_packing_color :
    packRow .rgb888 [pixelOf .color pixel] = [0xC8, 0x64, 0x32] ∧ packRow .rgb565 [pixelOf .color pixel] = [0x26, 0xCB] ∧
    packRow .mono8 [pixelOf .color pixel] = [0x70] ∧ (pixelOf .color pixel).y = 0x708 := by decide
theorem test_packing_mono12p :
    packRow .mono12p [pixelOf .mono 0xABC, pixelOf .mono 0x123] = [0xAB, 0x12, 0x3C] := by decide

/-- Sections 5.1, 11.1, R206: the header bytes and levels below were worked out from the manual's tables, apart from the
model. A QUERY of station 5, frame 0x1234, sequence 7. -/
theorem test_query_levels : judgeLevels (runs [8, 1, 2, 1, 2, 2, 2, 1, 1, 1, 3, 1, 2, 2, 3, 1, 2, 1, 3, 4, 6, 1, 6, 1,
    6, 1, 6, 1, 6, 1, 6, 1, 2, 10]) = ⟨.heard (cell 6 5 0x1234 7 []), none, false⟩ := by decide
theorem test_query_is_driven_so : signal (cell 6 5 0x1234 7 []) = runs [8, 1, 2, 1, 2, 2, 2, 1, 1, 1, 3, 1, 2, 2, 3, 1,
    2, 1, 3, 4, 6, 1, 6, 1, 6, 1, 6, 1, 6, 1, 6, 1, 2, 10] := by decide
/-- The same with header position 20 wrong. -/
theorem test_query_is_repaired : judgeLevels (runs [8, 1, 2, 1, 2, 2, 2, 1, 1, 1, 3, 1, 2, 3, 2, 1, 2, 1, 3, 4, 6, 1, 6,
    1, 6, 1, 6, 1, 6, 1, 6, 1, 2, 10]) = ⟨.heard (cell 6 5 0x1234 7 []), none, true⟩ := by decide
/-- A RELEASE of 9.1, frame 42, sequence 6, with its CRC. -/
theorem test_release_levels : judgeLevels (runs [8, 2, 1, 4, 3, 1, 2, 1, 1, 1, 1, 2, 1, 1, 6, 1, 5, 1, 1, 1, 5, 1, 6, 1,
    6, 1, 6, 1, 6, 1, 6, 1, 2, 1, 6, 1, 1, 1, 3, 1, 1, 3, 3, 10]) = ⟨.heard (cell 3 9 42 6 [1]), none, false⟩ := by
  decide
/-- R101: seven dominant bit times after the delimiter are an abort mark. -/
theorem test_seven_dominant_abort : judgeLevels (runs [8, 1, 7, 10]) = ⟨.damaged, some .aborted, false⟩ := by decide
/-- R105: a delimiter of seven is a header that never arrived. -/
theorem test_short_delimiter : judgeLevels (runs [7, 10]) = ⟨.damaged, some .headerBad, false⟩ := by decide

/-! ### One step of each command -/

/-- R173. -/
theorem test_power_on : (after (.powerOn true) (asserted member)).strap.cause = .power := by decide
theorem test_resetn_asserted : (after .resetnAsserted member).strap.resetCount = 1 := by decide
theorem test_resetn_released : (after .resetnReleased (asserted State.reset)).resetLine = false := by decide
/-- R178: the second failed attempt ends in MUTED(STRAP); R181, R182: the image is loaded. -/
theorem test_strap_load_fails_twice : (after (.strapAttemptEnd .sdaHeldLow)
    (after (.strapAttemptEnd (.notAcknowledged 1)) State.reset)).membership.state = .muted .strap := by decide
theorem test_strap_load : listening.membership.state = .listen ∧ (listening.slotAt 0).startOn = true ∧
    (listening.slotAt 1).startOn = false ∧ listening.own = 3 := by decide
/-- R175: the select byte 0x58, most significant bit first, not acknowledged; data byte 71 is acknowledged, byte 72 not. -/
theorem test_strap_signals_no_answer : (after (.strapAttemptEnd (.notAcknowledged 0)) State.reset).strap.signals =
    [.start, .sent false, .sent true, .sent false, .sent true, .sent true, .sent false, .sent false, .sent false,
      .memoryAck false, .stop] := by decide
theorem test_strap_signals_image : (strapSignals (.image image)).drop 676 = [.stationAck true, .clocked true, .clocked false,
    .clocked true, .clocked true, .clocked true, .clocked true, .clocked false, .clocked false, .stationAck false, .stop] := by
  decide
/-- R57, R123. -/
theorem test_link_busy : (after .linkBusy listening).membership.silence = .held ∧
    (after .linkBusy listening).ladder.grid = .stopped := by decide
def sendingQuery : State := after (.slotStart 19) { suspect with ladder := ⟨.running (some 18), 3, 0⟩ }
theorem test_slot_start : sendingQuery.link.transmitter = .sending ∧ sendingQuery.membership.sequence = 8 := by decide
theorem test_readback_mismatch : (after .readbackMismatch sendingQuery).link.transmitter = .marking := by decide
theorem test_abort_mark_complete :
    (after .abortMarkComplete (after .readbackMismatch sendingQuery)).link.transmitter = .idle := by decide
theorem test_last_bit_compared : (after .lastBitCompared sendingQuery).link.transmitter = .idle := by decide
/-- R12: the RELEASE written out above makes HELD tile 9.1 RELEASING. R42: a CLOSE of 9 opens frame 43. -/
theorem test_cell_end_release : ((after (.cellEnd (runs [8, 2, 1, 4, 3, 1, 2, 1, 1, 1, 1, 2, 1, 1, 6, 1, 5, 1, 1, 1, 5,
    1, 6, 1, 6, 1, 6, 1, 6, 1, 6, 1, 2, 1, 6, 1, 1, 1, 3, 1, 1, 3, 3, 10])) member).claims.table.map Entry.state) =
    [.held, .releasing] := by decide
theorem test_cell_end_close : (after (.cellEnd (signal (cell 5 9 42 6 []))) member).frame.number = 43 := by decide
/-- R59, R46, R89. -/
theorem test_silence_timer_expiry : (after .silenceTimerExpiry listening).queue = [waits .hello, waits (.claim 0)] := by
  decide
theorem test_frame_timer_expiry : (after .frameTimerExpiry member).queue = [waits (.close 42)] := by decide
theorem test_query_timer_expiry :
    (after .queryTimerExpiry { queued [] suspect with recovery := ⟨true, 1, []⟩ }).recovery.attempts = 2 := by decide
/-- R137, R138, R142: the first row of tile 3.0 is stored, 1,024 bytes; 383 rows are missing at a fall of frame-valid. -/
def inFrame : State := after .sensorFrameStart member
theorem test_sensor_frame_start : inFrame.contextAt 0 = .capturing 42 0 0 := by decide
theorem test_sensor_line : storeBytes (after (.sensorLine (List.replicate 512 pixel)) inFrame).store = 1024 := by decide
theorem test_sensor_frame_end : (after .sensorFrameEnd (capturing 1 0 member)).store =
    [⟨0, 42, 383, .endMarker 383, false⟩] := by decide
/-- R186: a window one byte short keeps the reply. -/
theorem test_read_window_short : (after (.readWindow 6) (replied member)).port.reply.isSome = true ∧
    (after (.readWindow 6) (replied member)).port.ldo = [1, 3, 0, 3, 3, 5] := by decide
theorem test_read_window : (after (.readWindow 8) (replied member)).port.reply = none ∧
    (after (.readWindow 8) (replied member)).port.ldo = [1, 3, 0, 3, 3, 5, 0xF1, 0] := by decide
/-- R187: code 12 is unknown; the check fails. -/
theorem test_request_window : ((after (.requestWindow [12, 0, 244]) member).port.reply.map Reply.status) =
    some .refusedCode := by decide
theorem test_request_window_bad_check : ((after (.requestWindow [1, 0, 0]) member).port.reply.map Reply.status) =
    some .refusedCheck := by decide
/-- The reply bodies of section 11.5. -/
def body (i : Instr) (s : State) : List Byte := ((after i s).port.reply.map Reply.body).getD []
theorem test_status : body (.status []) member =
    [3, 0, 3, 42, 0, 0xFF, 2, 0, 0, 0, 0, 0, 0, 4, 0, 0, 0, 0, 0, 0, 1, 0, 0, 0] := by decide
theorem test_table : (body (.table []) member).take 11 = [2, 0x03, 0x86, 0, 0, 0x80, 1, 0, 0, 0, 2] := by decide
theorem test_roster : (body (.roster []) member).take 8 = [0, 0, 0, 0, 0, 0, 0x80, 7] := by decide
theorem test_counters : (body (.counters [1]) (member.count fun c => { c with rowsMissing := 258 })).drop 36 =
    [2, 1, 0] := by decide
theorem test_notice : body (.notice []) (member.deposit (.cut 0 298)) = [2, 0, 42, 1] := by decide
/-- R27 to R29: slot requests. -/
theorem test_slot_off : ((after (.slotOff [0]) member).slotAt 0).state = .dropping ∧
    (after (.slotOff [0]) member).queue = [waits (.release 0)] := by decide
theorem test_slot_on : ((after (.slotOn [0]) (with0 (slot0 .off) member)).slotAt 0).state = .proposed := by decide
theorem test_slot_set : (after (.slotSet [1, 3, 0, 1, 16, 0, 0, 0, 32, 0, 5, 0, 6, 0]) member).slotAt 1 =
    ⟨.rgb888, ⟨256, 16, 0, 32⟩, ⟨5, 6⟩, .off, false, false⟩ := by decide
/-- R198, R199, R200. -/
theorem test_leave : (after (.leave []) member).queue = [waits .bye] := by decide
theorem test_rejoin : (after (.rejoin []) left).membership.state = .listen := by decide
theorem test_reset : (after (.reset []) member).strap.cause = .localPort ∧
    (after (.reset []) member).port.reply = none := by decide

/-! ### Witnesses: a state and operands that meet the hypotheses of each statement, clause by clause -/

/-- That MEMBER with a rise of frame-valid waiting. -/
def aboutToCapture : State := { member with pending := [.sensorFrameStart] }
/-- All the invariants together, at a MEMBER whose tile is at work. -/
theorem witness_lawful_member :
    aboutToCapture.noticesBounded = true ∧ aboutToCapture.tableBounded = true ∧ aboutToCapture.storeBounded = true ∧
    aboutToCapture.rowsCounted = true ∧ aboutToCapture.queuePlaces = true ∧ aboutToCapture.timersLawful = true ∧
    aboutToCapture.silentEmpty = true ∧ aboutToCapture.gridLawful = true ∧ aboutToCapture.flightLawful = true ∧
    aboutToCapture.suspectQueue = true ∧ aboutToCapture.framesAgree = true ∧ aboutToCapture.tilesLawful = true ∧
    aboutToCapture.rosterLawful = true ∧ aboutToCapture.strapValid = true ∧ aboutToCapture.unloadedBlank = true ∧
    aboutToCapture.recoveryLawful = true ∧ aboutToCapture.attemptsLawful = true ∧ aboutToCapture.strapResultLawful = true ∧
    aboutToCapture.givenLawful = true ∧ aboutToCapture.slotsLawful = true ∧ aboutToCapture.dumpsHoldDistinctKeys = true := by
  decide
theorem witness_lawful_sending : sendingQuery.flightLawful = true ∧ sendingQuery.suspectQueue = true ∧
    sendingQuery.gridLawful = true ∧ sendingQuery.queuePlaces = true ∧ sendingQuery.timersLawful = true ∧
    sendingQuery.givenLawful = true ∧ sendingQuery.slotsLawful = true ∧ sendingQuery.silentEmpty = true := by decide
/-- The premise of the EveryStep statements, `step s = .next t`, there. -/
theorem witness_EveryStepKeeps : step aboutToCapture = .next inFrame := rfl
/-- The same station with a DUMP of 9 that names it at its end. -/
theorem witness_EveryStepKeepsTheSlotsLawful : Kind.ofCode (cell 7 9 42 6 (dumpPayload 0x0008)).header.kind = some .dump ∧
    ({ member with pending := [.cellEnd (signal (cell 7 9 42 6 (dumpPayload 0x0008)))] } : State).dumpsHoldDistinctKeys = true ∧
    member.slotsLawful = true ∧ suspect.slotsLawful = true := by decide

theorem witness_ResetCauseRecord : member.resetBy (.powerOn false) = some .power ∧
    member.resetBy .resetnAsserted = some .line ∧ member.resetBy (.reset []) = some .localPort ∧
    member.resetBy (.requestWindow [11, 0, 245]) = some .localPort ∧ member.resetBy (.reset [1]) = none ∧
    (asserted member).resetBy .resetnAsserted = none := by decide

theorem witness_StrapImageIsJudgedInOrder :
    imageWords image = words ∧ imageWords (image.set 0 0) = words.set 0 0x5300 := by decide

theorem witness_StrapLoadEnds : State.reset.membership.state = .strap ∧ State.reset.resetLine = false ∧
    judgeImage (imageWords image) = none := by decide
theorem witness_StrapLoadEnds_failed : (judgeRead .sdaHeldLow).getLeft? = some .noAnswer ∧
    (judgeRead (.image (image.set 0 0))).getLeft? = some .tag ∧
    (after (.strapAttemptEnd .sdaHeldLow) State.reset).membership.state = .strap ∧
    (after (.strapAttemptEnd .sdaHeldLow) State.reset).strap.failed = 1 := by decide
theorem witness_StrapLoadEnds_no_load : ¬ (listening.membership.state = .strap ∧ listening.resetLine = false) ∧
    ¬ ((asserted State.reset).membership.state = .strap ∧ (asserted State.reset).resetLine = false) := by decide

/-- A grid whose slot 18 began last, at rank 3. -/
def onGrid (s : State) : State := { s with ladder := ⟨.running (some 18), 3, 0⟩ }
theorem witness_TurnStartsTheSelectedCell_control : (onGrid suspect).ladder.grid = .running (some 18) ∧ 18 < 19 ∧
    (onGrid suspect).link.busy = false ∧ 19 % 16 = (onGrid suspect).ladder.rank.val ∧
    (onGrid suspect).queue = [] ++ waits .query :: [] ∧ (onGrid suspect).membership.state = .suspect ∧
    (waits .query).kind = .query := by decide
theorem witness_TurnStartsTheSelectedCell_member : (onGrid (queued [waits .hello] member)).link.busy = false ∧
    (onGrid (queued [waits .hello] member)).membership.state = .member ∧
    (onGrid (queued [waits .hello] member)).queue = [] ++ waits .hello :: [] := by decide
theorem witness_TurnStartsTheSelectedCell_syncing :
    (onGrid (queued [waits .bye, waits .query] syncing)).membership.state = .syncing ∧
    (onGrid (queued [waits .bye, waits .query] syncing)).link.busy = false ∧ (waits .bye).kind ≠ .query := by decide
def stored (sort : StoreSort) (row : Nat) (s : State) : State := { s with store := [⟨0, 42, row, sort, false⟩] }
theorem witness_TurnStartsTheSelectedCell_tile :
    (onGrid (stored (.endMarker 383) 383 member)).membership.state = .member ∧
    (onGrid (stored (.endMarker 383) 383 member)).queue = [] ∧ (onGrid (stored (.endMarker 383) 383 member)).link.busy = false ∧
    (onGrid (stored (.endMarker 383) 383 member)).store = [⟨0, 42, 383, .endMarker 383, false⟩] := by decide

theorem witness_SlotStartsNothing : (onGrid member).ladder.grid = .running (some 18) ∧ (onGrid member).link.busy = false ∧
    18 < 20 ∧ 20 % 16 ≠ (onGrid member).ladder.rank.val ∧ (onGrid member).queue = [] ∧ (onGrid member).store = [] ∧
    (onGrid listening).membership.state = .listen := by decide
theorem witness_SlotStartsNothing_never : (after .linkBusy member).ladder.grid = .stopped ∧
    (after .linkBusy member).link.busy = true ∧ (onGrid member).ladder.grid = .running (some 18) ∧ 18 ≤ 18 := by decide

theorem witness_CellSignalIsHeardAsSent : (cell 6 5 1 7 []).payload.length ≤ 2050 ∧
    (cell 6 5 1 7 []).header.length.toNat = (cell 6 5 1 7 []).payload.length ∧
    (tile 9 42 1 0 (List.replicate 2050 0)).payload.length ≤ 2050 ∧
    (tile 9 42 1 0 (List.replicate 2050 0)).header.length.toNat = (tile 9 42 1 0 (List.replicate 2050 0)).payload.length := by
  decide

theorem witness_ControlPayloadsReadBack : member.claims.table.length ≤ 32 ∧ (∀ i, (member.rosterAt i).age < 16) ∧
    ({ member with claims := ⟨List.replicate 32 tile91, false, member.claims.slots⟩ } : State).claims.table.length ≤ 32 := by
  decide

/-- 9's CLOSE of frame 42, in sequence. -/
def close9 : Cell := cell 5 9 42 6 []
theorem witness_OnlyTheLinkHears : member.listens = true ∧ (judgeLevels (runs [8, 1, 7, 10])).cls = .damaged ∧
    muted.listens = true ∧ muted.isMuted = true ∧ left.listens = true ∧ left.membership.state = .left ∧
    (judgeLevels (signal close9)).cls.header?.map Header.sender ≠ some left.own := by decide
theorem witness_OnlyTheLinkHears_not_in_use : State.reset.link.receiver = .notInUse ∧
    (after (.strapAttemptEnd (.image image)) (after .linkBusy State.reset)).link.receiver = .awaitingIdle ∧
    sendingQuery.link.transmitter ≠ .idle := by decide

theorem witness_DuplicateNumberMutes : member.listens = true ∧ member.membership.state ≠ .strap ∧ member.isMuted = false ∧
    (judgeLevels (signal (cell 6 3 42 1 []))).cls.header? = some (cell 6 3 42 1 []).header ∧
    (cell 6 3 42 1 []).header.sender = member.own := by decide

theorem witness_ListenAndSyncingHear : listening.listens = true ∧ listening.membership.state = .listen ∧
    syncing.listens = true ∧ syncing.membership.state = .syncing ∧
    (judgeLevels (signal close9)).cls.header? = some close9.header ∧ close9.header.sender ≠ listening.own ∧
    Kind.ofCode close9.header.kind ≠ some .dump := by decide
theorem witness_ListenAndSyncingHear_params :
    (judgeLevels (signal (cell 1 9 42 6 (HelloBody.bytes ⟨1024, 752, 6, 0, 0⟩)))).cls =
      .heard (cell 1 9 42 6 (HelloBody.bytes ⟨1024, 752, 6, 0, 0⟩)) ∧
    listening.paramsMatch (helloOf (HelloBody.bytes ⟨1024, 752, 6, 0, 0⟩)) = false := by decide

/-- Frames 32,768 and 1 behind (42 - 32768 and 41), a TILE and a HELLO; the same at SUSPECT. -/
theorem witness_CellsOfOtherFrames_behind :
    (judgeLevels (signal (tile 9 32810 0 1 (List.replicate 16 0)))).cls.header? =
      some (tile 9 32810 0 1 (List.replicate 16 0)).header ∧
    32768 ≤ ((32810 : Word) - member.frame.number).toNat ∧ 32768 ≤ ((41 : Word) - member.frame.number).toNat ∧
    (judgeLevels (signal (cell 2 9 41 6 (List.replicate 10 0)))).cls.header? = some (cell 2 9 41 6 (List.replicate 10 0)).header ∧
    member.inSequence (cell 2 9 41 6 (List.replicate 10 0)).header = true ∧ suspect.membership.state = .suspect ∧
    suspect.listens = true := by decide
theorem witness_CellsOfOtherFrames_ahead :
    (judgeLevels (signal (cell 5 9 43 6 []))).cls.header? = some (cell 5 9 43 6 []).header ∧
    ((43 : Word) - member.frame.number).toNat ∈ Finset.Icc 1 32767 ∧
    ((32809 : Word) - member.frame.number).toNat ∈ Finset.Icc 1 32767 ∧
    (judgeLevels (spoiled (cell 3 9 42 6 [1]))).cls = .headerHeard (cell 3 9 42 6 [1]).header ∧
    suspect.listens = true ∧ suspect.frame.number = 42 ∧ (cell 5 9 43 6 []).header.sender ≠ suspect.own := by decide

/-- 9's RELEASE with sequence 9, where 6 is due; a cell of kind 9; a HELLO one byte short; a DUMP cut short; 9's QUERY
and its DUMP for station 5 at a SUSPECT station. -/
theorem witness_GapAndUnusableCells_gap : member.listens = true ∧ member.membership.state = .member ∧
    (judgeLevels (signal (cell 3 9 42 9 [1]))).cls = .heard (cell 3 9 42 9 [1]) ∧
    member.inSequence (cell 3 9 42 9 [1]).header = false ∧ (cell 3 9 42 9 [1]).header.sender ≠ member.own ∧
    (dumpOf (dumpPayload 0x0020)).map (fun d => d.names member.own) = some false := by decide
theorem witness_GapAndUnusableCells_recorded :
    (judgeLevels (signal (cell 9 9 42 9 []))).cls = .heard (cell 9 9 42 9 []) ∧
    Kind.ofCode (cell 9 9 42 9 []).header.kind = none ∧ malformed (cell 1 9 42 6 (List.replicate 8 0)) = true ∧
    member.inSequence (cell 1 9 42 6 (List.replicate 8 0)).header = true ∧ dumpOf [0, 0, 1] = none ∧
    (judgeLevels (signal (cell 7 9 42 6 [0, 0, 1]))).cls.header? = some (cell 7 9 42 6 [0, 0, 1]).header ∧
    (judgeLevels (signal (cell 6 9 42 6 []))).cls = .heard (cell 6 9 42 6 []) ∧ suspect.membership.state = .suspect ∧
    (dumpOf (dumpPayload 0x0020)).map (fun d => d.names suspect.own) = some false := by decide

def hello9 : Cell := cell 1 9 42 6 (helloPayload (tableDigest member.claims.table) 0x0208)
theorem witness_HelloIsHeard_compared : member.listens = true ∧ (judgeLevels (signal hello9)).cls = .heard hello9 ∧
    hello9.header.sender ≠ member.own ∧ member.isCurrent .hello hello9 = true ∧ member.inSequence hello9.header = true ∧
    member.present hello9.header.sender = true := by decide
def hello5 : Cell := cell 1 5 42 1 (helloPayload 0xFFFF 0)
theorem witness_HelloIsHeard_admitted : (judgeLevels (signal hello5)).cls = .heard hello5 ∧
    hello5.header.sender ≠ member.own ∧ member.isCurrent .hello hello5 = true ∧
    member.present hello5.header.sender = false ∧ member.paramsMatch (helloOf hello5.payload) = true ∧
    suspect.isCurrent .hello hello5 = true := by decide
def hello5Other : Cell := cell 1 5 42 1 (HelloBody.bytes ⟨1024, 752, 6, 0, 0⟩)
theorem witness_HelloIsHeard_counted : suspect.isCurrent .hello hello9 = true ∧ suspect.listens = true ∧
    suspect.present hello9.header.sender = true ∧ (judgeLevels (signal hello5Other)).cls = .heard hello5Other ∧
    member.isCurrent .hello hello5Other = true ∧ member.present hello5Other.header.sender = false ∧
    member.paramsMatch (helloOf hello5Other.payload) = false := by decide
def hello3 : Cell := cell 1 3 42 8 (helloPayload (tableDigest member.claims.table) 0x0208)
def helloSent : State := onLink hello3 (.queue .hello) .matched (queued [sent .hello] member)
def ownFlight (s : State) : Flight := s.link.flight.getD ⟨close9, .store, ⟨0, 0⟩, .none⟩
theorem witness_HelloIsHeard_own : helloSent.ends (ownFlight helloSent) .matched = true ∧
    (judgeLevels (signal hello3)).cls ≠ .damaged ∧ helloSent.membership.state = .member ∧
    helloSent.isCurrent .hello (ownFlight helloSent).cell = true ∧ (ownFlight helloSent).cell.header.sender = helloSent.own := by
  decide

def query9 : Cell := cell 6 9 42 6 []
theorem witness_QueriesAndDumpsAreHeard_query : member.listens = true ∧ (judgeLevels (signal query9)).cls = .heard query9 ∧
    query9.header.sender ≠ member.own ∧ Kind.ofCode query9.header.kind = some .query ∧ malformed query9 = false ∧
    member.inSequence query9.header = true := by decide
def query3 : Cell := cell 6 3 42 8 []
def querySent (s : State) : State := onLink query3 (.queue .query) .matched (queued [sent .query] s)
theorem witness_QueriesAndDumpsAreHeard_own_query : (querySent suspect).ends (ownFlight (querySent suspect)) .matched = true ∧
    (querySent syncing).ends (ownFlight (querySent syncing)) .matched = true ∧
    (judgeLevels (signal query3)).cls ≠ .damaged ∧ Kind.ofCode query3.header.kind = some .query ∧ malformed query3 = false := by
  decide
/-- A DUMP of 9 for station 5, at a MEMBER that also owes 5 one. -/
def dump9 : Cell := cell 7 9 42 6 (dumpPayload 0x0020)
def owing : State := queued [waits .dump] { member with recovery := ⟨false, 0, [5]⟩ }
theorem witness_QueriesAndDumpsAreHeard_dump : (judgeLevels (signal dump9)).cls = .heard dump9 ∧ owing.listens = true ∧
    owing.inSequence dump9.header = true ∧ (dumpOf dump9.payload).map (fun d => d.names owing.own) = some false := by decide
def dump3 : Cell := cell 7 3 42 8 (dumpPayload 0x0020)
def dumpSent : State := onLink dump3 (.queue .dump) .matched (queued [sent .dump] owing)
theorem witness_QueriesAndDumpsAreHeard_own_dump : dumpSent.ends (ownFlight dumpSent) .matched = true ∧
    (judgeLevels (signal dump3)).cls ≠ .damaged ∧ Kind.ofCode dump3.header.kind = some .dump ∧
    (dumpOf dump3.payload).map (fun d => d.names dumpSent.own) = some false := by decide

/-- A DUMP of 9 for station 3. -/
def dumpFor3 : Cell := cell 7 9 42 6 (dumpPayload 0x0008)
theorem witness_NamedDumpIsInstalled : (judgeLevels (signal dumpFor3)).cls = .heard dumpFor3 ∧ syncing.listens = true ∧
    suspect.listens = true ∧ member.listens = true ∧ dumpFor3.header.sender ≠ syncing.own ∧
    (dumpOf dumpFor3.payload).map (fun d => (d.names syncing.own, d.names suspect.own, d.names member.own)) =
      some (true, true, true) := by decide
theorem witness_InstallRederivesTheSlots : (∀ c ∈ syncing.queue, c.inFlight = false ∧ c.kind = .query) ∧
    syncing.membership.state ≠ .member ∧
    (queued [⟨.close 42, some 8, false⟩, waits .dump] member).membership.state = .member ∧
    (queued [⟨.close 42, some 8, false⟩, waits .dump] member).queue.all (fun c => !c.inFlight) = true := by decide

theorem witness_ClaimChecksInOrder : tile91 ∈ member.claims.table := by decide
/-- Columns at both sides of the MONO8 and the RGB888 limit. -/
theorem witness_WidthCheck : 16 ∣ (2048 : Word).toNat ∧ 16 ∣ (2064 : Word).toNat ∧ 16 ∣ (672 : Word).toNat ∧
    16 ∣ (688 : Word).toNat := by decide

/-- 9 claims slot 2, MONO8 (400, 8, 512, 64). -/
def claim9 : Cell := cell 2 9 42 6 (ClaimBody.bytes ⟨2, 0, ⟨400, 8, 512, 64⟩⟩)
theorem witness_ClaimIsHeard : (judgeLevels (signal claim9)).cls = .heard claim9 ∧ member.isCurrent .claim claim9 = true ∧
    member.inSequence claim9.header = true ∧ suspect.isCurrent .claim claim9 = true ∧
    member.judgeClaim 9 (claimOf claim9.payload) = none := by decide
def claim3 : Cell := cell 2 3 42 7 (ClaimBody.bytes ⟨0, 2, ⟨0, 384, 0, 512⟩⟩)
/-- The own CLAIM is at its end; the table holds 9.1 alone, or the own entry too (DUPLICATE, log entry 20). -/
def claimSent (table : List Entry) : State :=
  onLink claim3 (.queue (.claim 0)) .matched (queued [sent (.claim 0)] (with0 (slot0 .proposed)
    { member with claims := ⟨table, false, member.claims.slots⟩ }))
theorem witness_ClaimIsHeard_own : (judgeLevels (signal claim3)).cls ≠ .damaged ∧
    (claimSent [tile91]).ends (ownFlight (claimSent [tile91])) .matched = true ∧
    (claimSent [tile91]).isCurrent .claim claim3 = true ∧
    (claimSent [tile91]).judgeClaim 3 (claimOf claim3.payload) = none ∧
    (claimSent [⟨9, 0, .mono8, .held, ⟨0, 1, 0, 16⟩, none⟩]).judgeClaim 3 (claimOf claim3.payload) = some .overlap ∧
    (claimSent (List.replicate 32 tile91)).judgeClaim 3 (claimOf claim3.payload) = some .full ∧
    (claimSent [tile30]).judgeClaim 3 (claimOf claim3.payload) = some .duplicate := by decide

def release9 : Cell := cell 3 9 42 6 [1]
theorem witness_ReleaseIsHeard : (judgeLevels (signal release9)).cls = .heard release9 ∧
    member.isCurrent .release release9 = true ∧ member.inSequence release9.header = true ∧ member.listens = true := by decide
def release3 : Cell := cell 3 3 42 7 [0]
def releaseSent : State :=
  onLink release3 (.queue (.release 0)) .matched (queued [sent (.release 0)] (with0 (slot0 .dropping) member))
theorem witness_ReleaseIsHeard_own : releaseSent.ends (ownFlight releaseSent) .matched = true ∧
    (judgeLevels (signal release3)).cls ≠ .damaged ∧ releaseSent.isCurrent .release release3 = true ∧
    release3.payload = [BitVec.ofNat 8 (0 : SlotNo).val] ∧ release3.header.sender = releaseSent.own ∧
    (releaseSent.slotAt 0).state = .dropping := by decide

/-- The end marker of tile 9.1 (slot 1, tile row 383). -/
def tile9 : Cell := tile 9 42 1 1533 [0x7F, 0x01]
theorem witness_TileCompletesItsTile : (judgeLevels (signal tile9)).cls.header? = some tile9.header ∧
    Kind.ofCode tile9.header.kind = some .tile ∧ tile9.header.frame = member.frame.number ∧
    tile9.header.flags.getLsbD 0 = true ∧ (⟨9, 1⟩ : TileKey) ∈ member.frame.outstanding ∧
    tile9.header.tileSlot = 1 := by decide
/-- The own tile's end marker, the first store entry, at its end. -/
def tile3 : Cell := tile 3 42 1 1532 [0x7F, 0x01]
def tileSent : State := onLink tile3 .store .matched { member with store := [⟨0, 42, 383, .endMarker 383, true⟩] }
theorem witness_TileCompletesItsTile_own : tileSent.ends (ownFlight tileSent) .matched = true ∧
    (judgeLevels (signal tile3)).cls ≠ .damaged ∧ (ownFlight tileSent).source = .store ∧ tile3.header.sender = tileSent.own ∧
    Kind.ofCode tile3.header.kind = some .tile ∧ tile3.header.frame = tileSent.frame.number ∧
    tile3.header.flags.getLsbD 0 = true ∧ (⟨3, 0⟩ : TileKey) ∈ tileSent.frame.outstanding ∧
    tile3.header.tileSlot = 0 := by decide

theorem witness_CloseClosesTheFrame : (judgeLevels (signal close9)).cls = .heard close9 ∧
    member.isCurrent .close close9 = true ∧ member.inSequence close9.header = true ∧
    suspect.isCurrent .close close9 = true := by decide
def close3 : Cell := cell 5 3 42 7 []
def closeSent : State := onLink close3 (.queue (.close 42)) .matched (queued [sent (.close 42)] member)
theorem witness_CloseClosesTheFrame_own : closeSent.ends (ownFlight closeSent) .matched = true ∧
    (judgeLevels (signal close3)).cls ≠ .damaged ∧ closeSent.isCurrent .close close3 = true := by decide

def bye9 : Cell := cell 8 9 42 6 []
def bye3 : Cell := cell 8 3 42 7 []
def byeSent : State := onLink bye3 (.queue .bye) .matched (queued [sent .bye] member)
theorem witness_ByeLeaves : (judgeLevels (signal bye9)).cls = .heard bye9 ∧ member.isCurrent .bye bye9 = true ∧
    member.inSequence bye9.header = true := by decide
theorem witness_ByeLeaves_own : byeSent.ends (ownFlight byeSent) .matched = true ∧
    (judgeLevels (signal bye3)).cls ≠ .damaged ∧ byeSent.isCurrent .bye bye3 = true ∧
    bye3.header.sender = byeSent.own := by decide

def closeCollided : State := onLink close3 (.queue (.close 42)) .mismatched (queued [sent (.close 42)] member)
theorem witness_OwnCellIsAborted : closeCollided.ends (ownFlight closeCollided) .mismatched = true ∧
    closeCollided.isMuted = false ∧ closeSent.ends (ownFlight closeSent) .matched = true ∧
    judgeLevels (runs [8, 1, 16, 10]) = ⟨.damaged, some .aborted, false⟩ := by decide
def claimCollided (attempts : Nat) : State :=
  let s := onLink claim3 (.queue (.claim 0)) .mismatched
    (queued [sent (.claim 0), waits (.close 42)] (with0 ⟨.rgb565, ⟨0, 384, 0, 512⟩, ⟨0, 0⟩, .proposed, false, true⟩ member))
  { s with ladder := { s.ladder with attempts := attempts } }
/-- Its off-after mark set, the third and the fourth abort. -/
theorem witness_OwnCellIsAborted_withdrawn : (claimCollided 2).ends (ownFlight (claimCollided 2)) .mismatched = true ∧
    (ownFlight (claimCollided 2)).source = .queue (.claim 0) ∧ ((claimCollided 2).slotAt 0).offAfter = true ∧
    (claimCollided 2).ladder.attempts < 3 ∧ (claimCollided 3).ends (ownFlight (claimCollided 3)) .mismatched = true ∧
    3 ≤ (claimCollided 3).ladder.attempts := by decide
/-- A HELLO aborted while slot 0 is WANTED. -/
def helloCollided : State :=
  onLink hello3 (.queue .hello) .mismatched (queued [sent .hello] (with0 (slot0 .wanted) member))
theorem witness_OwnCellIsAborted_serves : helloCollided.ends (ownFlight helloCollided) .mismatched = true ∧
    (helloCollided.slotAt 0).state = .wanted ∧ helloCollided.membership.state = .member ∧ helloCollided.ladder.attempts < 3 := by
  decide

/-- 9 at age 5 of 6 goes ABSENT at the close; at age 4 it stays. -/
def agedRoster (n : Nat) : Vector RosterEntry 16 :=
  tab16 fun i => if i = 9 then ⟨true, n, false, 5⟩ else member.rosterAt i

def aged (n : Nat) : State := { member with membership := { member.membership with roster := agedRoster n } }
theorem witness_RosterAgesAtAClose : (aged 5).present 9 = true ∧ ((aged 5).closeFrame .close).present 9 = false ∧
    ((aged 4).closeFrame .close).present 9 = true ∧ ((aged 4).rosterAt 9).age < (aged 4).rosterTimeout := by decide
theorem witness_CloseServesTheSlots : (queued [waits (.close 42)] member).queue.all (fun c => !c.inFlight) = true ∧
    (queued [waits (.close 42)] member).queue.any (fun c => c.kind == .claim 0 || c.kind == .release 0) = false := by
  decide
theorem witness_MemberEntryQueuesItsCells : member.membership.state = .member ∧
    (queued [waits .bye] member).queue.all (fun c => c.kind = .query ∨ c.kind = .dump ∨ c.kind = .bye) = true := by decide
theorem witness_ThePlanChangesOnlyWhereItsRulesSay : exec (.slotStart 19) (onGrid suspect) = .next sendingQuery ∧
    (onGrid suspect).link.transmitter = .idle ∧ sendingQuery.link.transmitter ≠ .idle := ⟨rfl, by decide, by decide⟩
theorem witness_RankAndAttemptCount : rankOf 3 (some 9) = rankOf 3 (some 9) ∧ rankOf 3 none = 3 := by decide
theorem witness_MutedIsFrozenUntilAReset : muted.silentEmpty = true ∧ muted.timersLawful = true ∧ muted.isMuted = true ∧
    muted.resetBy .frameTimerExpiry = none := by decide

def asking (attempts : Nat) (s : State) : State := { s with recovery := ⟨true, attempts, []⟩ }
theorem witness_QueryTimerExpiry : suspect.recovery.timerRunning = false ∧ (asking 2 suspect).recovery.timerRunning = true ∧
    (asking 2 suspect).recovery.attempts < 3 ∧ 3 ≤ (asking 3 suspect).recovery.attempts ∧
    (asking 3 suspect).membership.state = .suspect ∧ (asking 3 syncing).membership.state = .syncing := by decide

theorem witness_SensorFrames : State.reset.membership.state = .strap ∧ member.capture.inFrame = false ∧
    member.membership.state ≠ .strap ∧ (capturing 383 0 member).capture.inFrame = true ∧
    ((capturing 383 0 member).ownEntry 0).map (fun e => e.region.rows.toNat) = some 384 ∧ 383 < 384 := by decide
/-- Rows 382 and 383, the last one, of tile 3.0. -/
theorem witness_SensorLineIsServed : (capturing 382 1 member).contextAt 0 = .capturing 42 382 1 ∧
    (capturing 383 1 member).contextAt 0 = .capturing 42 383 1 ∧ (capturing 383 1 member).ownEntry 0 = some tile30 ∧
    tile30.localPart = some ⟨⟨0, 0⟩, 0⟩ ∧ 383 < tile30.region.rows.toNat ∧
    (capturing 383 1 member).contextAt 1 = .idle := by decide

theorem witness_ReadWindow : (replied member).port.reply = some ⟨.done, [3, 3, 5], false⟩ ∧ member.port.reply = none ∧
    1 ≤ 1 := by decide
theorem witness_RefusedAndLostRequests_windows :
    decodeWindowBytes [5, 0, 0xFB] = some (.notice []) ∧ Instr.notice [] ≠ .requestWindow [5, 0, 0xFB] ∧
    decodeWindowBytes [12, 0, 244] = some (.requestWindow [12, 0, 244]) ∧
    decodeWindowBytes [1] = some (.requestWindow [1]) := by decide
theorem witness_RefusedAndLostRequests_judged : requestCode (.slotOn [4]) = some (7, [4]) ∧
    member.resetLine = false ∧ member.port.reply = none ∧ (asserted member).resetLine = true ∧
    (replied member).port.reply ≠ none ∧ 3 < (([4] : List Byte).getD 0 0).toNat ∧
    requestCode (.counters [2]) = some (4, [2]) ∧ requestCode (.rejoin []) = some (10, []) ∧
    requestCode (.status [0]) = some (1, [0]) := by decide
theorem witness_StatusReply : member.asks = true ∧ State.reset.asks = true := by decide
theorem witness_TableRosterCountersAndNotice : member.asks = true ∧ (∀ i, (member.rosterAt i).age < 16) ∧
    (0 : Byte).toNat ≤ 1 ∧ (1 : Byte).toNat ≤ 1 := by decide
def full : State := member.depositAll (List.replicate 8 (.cut 0 42))
theorem witness_NoticesAreDeposited : member.port.notices.length < 8 ∧ 8 ≤ full.port.notices.length := by decide
theorem witness_SlotRequests : member.asks = true ∧ member.takesSlots = true ∧ suspect.takesSlots = true ∧
    listening.takesSlots = true ∧ (member.slotAt 1).state = .off ∧ (member.slotAt 0).state = .active := by decide
theorem witness_LeaveRejoinAndRefusedReset : member.asks = true ∧ member.membership.state = .member ∧
    member.queue.any (fun c => c.kind = .bye) = false ∧ left.asks = true ∧ left.membership.state = .left ∧
    ([0] : List Byte) ≠ [] := by decide
theorem witness_WindowsSpellTheirCommands : (Instr.slotOff [1]).wf = true ∧
    (windowBytes (.slotOff [1])).isSome = true ∧ (Instr.readWindow 1).wf = true ∧
    (windowBytes (.readWindow 1)).isSome = true ∧ (Instr.requestWindow [12]).wf = true := by decide
theorem witness_ColorAndMonochromePacking : [pixelOf .mono 0xABC, pixelOf .mono 0x123].length % 2 = 0 ∧ 0 < 2 / 2 ∧
    [pixelOf .mono 0xABC, pixelOf .mono 0x123][2 * 0 + 1]? = some (pixelOf .mono 0x123) := by decide
theorem witness_HeaderRepairsOneErrorFindsTwo : 0 < 72 ∧ 71 < 72 ∧ 0 ≠ 71 := by decide
/-- R114: the mark behind the delimiter and, log entry 35, in its last dominant bit time. -/
theorem test_abort_mark_at_the_delimiter : judgeLevels (untilIdle ((cellSignal close9).take 9 ++ abortMark)) =
      ⟨.damaged, some .aborted, false⟩ ∧
    judgeLevels (untilIdle ((cellSignal close9).take 8 ++ abortMark)) = ⟨.damaged, some .headerBad, false⟩ := by decide
theorem witness_CloseOpensTheNextFrame : (⟨3, 0⟩ : TileKey) ∈ allKeys ∧ (⟨15, 3⟩ : TileKey) ∈ allKeys := by decide
/-- Every context of that MEMBER is CAPTURING an own entry with rows left, or is not CAPTURING. -/
theorem witness_SensorFrames_open : (capturing 383 0 member).contextAt 0 = .capturing 42 383 0 ∧
    (capturing 383 0 member).ownEntry 0 = some tile30 ∧ (capturing 383 0 member).contextAt 1 = .idle ∧
    (capturing 383 0 member).contextAt 2 = .idle ∧ (capturing 383 0 member).contextAt 3 = .idle := by decide
theorem witness_EveryCommandCompletes : (∀ b, Instr.linkBusy ≠ .powerOn b) ∧ Instr.linkBusy ≠ .resetnAsserted ∧
    Instr.linkBusy ≠ .resetnReleased ∧ member.resetBy .linkBusy = none ∧ (∀ r, Instr.linkBusy ≠ .strapAttemptEnd r) ∧
    ∀ l, Instr.linkBusy ≠ .cellEnd l := by
  refine ⟨?_, ?_, ?_, rfl, ?_, ?_⟩ <;> simp

end Sys2Proof.Tests
end

