-- ==== Sys2Proof/Proofs/WidthCheck.lean ====
section
/-! The WIDTH check (R9): the packed row length of each format, and the widest columns it leaves. -/

namespace Sys2Proof.Machine

@[simp] theorem rowBytes_mono8 (cols : Nat) : rowBytes .mono8 cols = cols := rfl
@[simp] theorem rowBytes_mono12p (cols : Nat) : rowBytes .mono12p cols = cols * 3 / 2 := rfl
@[simp] theorem rowBytes_rgb565 (cols : Nat) : rowBytes .rgb565 cols = cols * 2 := rfl
@[simp] theorem rowBytes_rgb888 (cols : Nat) : rowBytes .rgb888 cols = cols * 3 := rfl

theorem widthFails_iff (f : Format) (r : Region) :
    widthFails f r = true ↔ 2048 < rowBytes f r.cols.toNat := decide_eq_true_iff

/-- A pixel pair of MONO12P takes three bytes, so at an even width the halving loses nothing. -/
theorem two_mul_rowBytes_mono12p {cols : Nat} (even : 2 ∣ cols) : 2 * rowBytes .mono12p cols = cols * 3 :=
  Nat.mul_div_cancel' (even.mul_right 3)

/-- 2,048 bytes hold 1,365 columns and no more; the multiple of 16 below it is 1,360. -/
theorem rowBytes_mono12p_exceeds_iff {cols : Nat} (grid : 16 ∣ cols) :
    2048 < rowBytes .mono12p cols ↔ 1360 < cols := by
  obtain ⟨k, rfl⟩ := grid
  rw [rowBytes_mono12p]
  omega

/-- 2,048 bytes hold 682 columns and no more; the multiple of 16 below it is 672. -/
theorem rowBytes_rgb888_exceeds_iff {cols : Nat} (grid : 16 ∣ cols) :
    2048 < rowBytes .rgb888 cols ↔ 672 < cols := by
  obtain ⟨k, rfl⟩ := grid
  rw [rowBytes_rgb888]
  omega

/-- Settles O26: the columns' step of 16 is what makes MONO12P's length whole and brings its bound and RGB888's down to
the table's; the two other formats' bounds are on that grid already. -/
theorem widthCheck : Obligations.WidthCheck := by
  intro f r grid
  refine ⟨?_, widthFails_iff f r, (widthFails_iff f r).trans ?_⟩
  · cases f with
    | mono8 => rw [rowBytes_mono8, Nat.mul_comm]
    | mono12p => exact two_mul_rowBytes_mono12p (Nat.dvd_trans (by decide) grid)
    | rgb565 => simp only [rowBytes_rgb565]; omega
    | rgb888 => simp only [rowBytes_rgb888]; omega
  · cases f with
    | mono8 => rw [rowBytes_mono8]
    | mono12p => exact rowBytes_mono12p_exceeds_iff grid
    | rgb565 => simp only [rowBytes_rgb565]; omega
    | rgb888 => exact rowBytes_rgb888_exceeds_iff grid

end Sys2Proof.Machine
end

section
/-! Aging the roster at a close (R63) and what it takes from the table (R15). -/

namespace Sys2Proof.Machine

/-! ### One entry -/

/-- The own entry, and an ABSENT one, only lose the flag. -/
theorem agedEntry_unaged {own : Bool} {e : RosterEntry} (h : ¬(e.present = true ∧ own = false)) (timeout : Nat) :
    agedEntry timeout own e = { e with heard := false } := by
  simp [agedEntry, h]

/-- Another station's PRESENT entry, below the timeout or at it. -/
theorem agedEntry_present {e : RosterEntry} (h : e.present = true) (timeout : Nat) :
    agedEntry timeout false e =
      if timeout ≤ (if e.heard then 0 else e.age + 1) then { e with present := false, age := 0, heard := false }
      else { e with age := if e.heard then 0 else e.age + 1, heard := false } := by
  simp [agedEntry, h]

/-- An entry that is still PRESENT was so before, and either kept its age or aged to below the timeout. -/
theorem agedEntry_stays_present {timeout : Nat} {own : Bool} {e : RosterEntry}
    (h : (agedEntry timeout own e).present = true) :
    e.present = true ∧
      ((agedEntry timeout own e).age = e.age ∨ (agedEntry timeout own e).age < timeout) := by
  by_cases aged : e.present = true ∧ own = false
  · obtain ⟨present, rfl⟩ := aged
    rw [agedEntry_present present] at h ⊢
    by_cases reached : timeout ≤ (if e.heard then 0 else e.age + 1)
    · rw [if_pos reached] at h
      cases h
    · rw [if_neg reached]
      exact ⟨present, .inr (Nat.lt_of_not_le reached)⟩
  · rw [agedEntry_unaged aged] at h ⊢
    exact ⟨h, .inl rfl⟩

/-! ### The roster and the table of a closed frame -/

section Closed

variable (s : State) (cause : CloseCause)

@[simp] theorem State.openTable_roster : s.openTable.membership.roster = s.agedRoster := by
  simp [State.openTable, State.forSlots_eq]

@[simp] theorem State.openTable_table : s.openTable.claims.table = s.openedTable := by
  simp [State.openTable, State.forSlots_eq]

/-- After the open step neither the frame unit, nor the HELLO schedule, nor a cut touches the roster. -/
theorem State.closeFrame_roster : (s.closeFrame cause).membership.roster = s.agedRoster := by
  cases cause <;> simp [State.closeFrame, State.forSlots_eq]

theorem State.closeFrame_table : (s.closeFrame cause).claims.table = s.openedTable := by
  cases cause <;> simp [State.closeFrame, State.forSlots_eq]

theorem State.agedRoster_get (i : Station) :
    s.agedRoster[i] = agedEntry s.rosterTimeout (i == s.own) (s.rosterAt i) :=
  tab16_get (fun i => agedEntry s.rosterTimeout (i == s.own) (s.rosterAt i)) i

theorem State.closeFrame_rosterAt (i : Station) :
    (s.closeFrame cause).rosterAt i = agedEntry s.rosterTimeout (i == s.own) (s.rosterAt i) := by
  rw [State.rosterAt, s.closeFrame_roster, s.agedRoster_get]

theorem State.closeFrame_present (i : Station) : (s.closeFrame cause).present i = s.agedRoster[i].present := by
  rw [State.present, State.rosterAt, s.closeFrame_roster]

theorem State.closeFrame_rosterTimeout : (s.closeFrame cause).rosterTimeout = s.rosterTimeout := by
  simp [State.rosterTimeout]

/-- R15, steps 1 to 3: an entry of the opened table stands for one that did not leave, with the same owner. -/
theorem State.mem_openedTable {x : Entry} (mem : x ∈ s.openedTable) :
    ∃ e ∈ s.claims.table, s.leavesAtOpen e = false ∧ e.owner = x.owner := by
  obtain ⟨e, kept, rfl⟩ := List.mem_map.1 mem
  obtain ⟨old, stays⟩ := List.mem_filter.1 kept
  exact ⟨e, old, by simpa using stays, by split <;> rfl⟩

/-- R15, step 1: an owner PRESENT before the close with an entry in the table after it did not age out. -/
theorem State.closeFrame_keeps_owner_present {x : Entry} (mem : x ∈ (s.closeFrame cause).claims.table)
    (present : s.present x.owner = true) : (s.closeFrame cause).present x.owner = true := by
  rw [s.closeFrame_table] at mem
  obtain ⟨e, -, stays, owner⟩ := s.mem_openedTable mem
  rw [← owner] at present ⊢
  rw [s.closeFrame_present]
  simp only [State.leavesAtOpen, present, Bool.true_and, Bool.or_eq_false_iff, Bool.not_eq_false'] at stays
  exact stays.1

end Closed

/-- Settles O33: the roster after a close is the aged roster whatever the cause, the table is the opened one, and the
strap image with the timeout stands. -/
theorem rosterAgesAtAClose : Obligations.RosterAgesAtAClose := by
  intro s cause i
  refine ⟨?aged, ?tableLoses, ?ageBelow⟩
  case aged =>
    rw [s.closeFrame_rosterAt]
    split
    · next other =>
      obtain ⟨present, ne⟩ := other
      rw [beq_false_of_ne ne, agedEntry_present present]
    · next unaged => exact agedEntry_unaged (by simpa using unaged) _
  case tableLoses =>
    rintro ⟨before, after⟩ x mem rfl
    rw [s.closeFrame_keeps_owner_present cause mem before] at after
    cases after
  case ageBelow =>
    intro lawful after
    rw [State.present, s.closeFrame_rosterAt] at after
    rw [s.closeFrame_rosterAt, s.closeFrame_rosterTimeout]
    obtain ⟨before, same | below⟩ := agedEntry_stays_present after
    · exact same.trans_lt (lawful before)
    · exact below

end Sys2Proof.Machine
end

section
/-! The packed bytes of a row (R150 to R152) as numbers: the fields that are cut from a value, the RGB565 value and its
two bytes, and the MONO12P triples. -/

namespace Sys2Proof.Machine

/-! ### Bit fields as quotients and remainders -/

/-- The bits of `x` from `start` up are its quotient. -/
theorem toNat_extractLsb'_top {w start len : Nat} (x : BitVec w) (top : start + len = w) :
    (x.extractLsb' start len).toNat = x.toNat / 2 ^ start := by
  have below : x.toNat / 2 ^ start < 2 ^ len := by
    rw [Nat.div_lt_iff_lt_mul (Nat.two_pow_pos start), ← Nat.pow_add, Nat.add_comm, top]
    exact x.isLt
  rw [BitVec.extractLsb'_toNat, Nat.shiftRight_eq_div_pow, Nat.mod_eq_of_lt below]

/-- The low `len` bits of `x` are its remainder. -/
theorem toNat_extractLsb'_low {w : Nat} (x : BitVec w) (len : Nat) :
    (x.extractLsb' 0 len).toNat = x.toNat % 2 ^ len := by
  rw [BitVec.extractLsb'_toNat, Nat.shiftRight_zero]

/-- Two fields side by side are the sum of the upper one, shifted, and the lower one. -/
theorem toNat_append_eq_add {v w : Nat} (x : BitVec v) (y : BitVec w) :
    (x ++ y).toNat = x.toNat * 2 ^ w + y.toNat := by
  rw [BitVec.toNat_append, ← Nat.shiftLeft_add_eq_or_of_lt y.isLt, Nat.shiftLeft_eq]

/-- A 16-bit value is sent less significant byte first. -/
theorem wordBytes_eq_ofNat (w : Word) :
    wordBytes w = [BitVec.ofNat 8 (w.toNat % 256), BitVec.ofNat 8 (w.toNat / 256)] := by
  have low : w.extractLsb' 0 8 = BitVec.ofNat 8 (w.toNat % 256) := BitVec.eq_of_toNat_eq <| by
    rw [toNat_extractLsb'_low, BitVec.toNat_ofNat]
    exact (Nat.mod_mod _ _).symm
  have high : w.extractLsb' 8 8 = BitVec.ofNat 8 (w.toNat / 256) := BitVec.eq_of_toNat_eq <| by
    rw [toNat_extractLsb'_top w rfl, BitVec.toNat_ofNat]
    exact (Nat.mod_eq_of_lt (Nat.div_lt_of_lt_mul (k := 256) w.isLt)).symm
  rw [wordBytes, low, high]

/-! ### The values of a pixel -/

/-- R134: on a COLOR sensor 4 * (R + 2G + B) is at most 4080, so the 12 bits of Y hold it whole. -/
theorem color_y_toNat (p : BitVec 24) :
    (pixelOf .color p).y.toNat =
      4 * ((pixelOf .color p).r.toNat + 2 * (pixelOf .color p).g.toNat + (pixelOf .color p).b.toNat) := by
  have r := (pixelOf .color p).r.isLt
  have g := (pixelOf .color p).g.isLt
  have b := (pixelOf .color p).b.isLt
  exact (BitVec.toNat_ofNat _ 12).trans (Nat.mod_eq_of_lt (by omega))

/-- R152: bits 11..4 of Y. -/
theorem Pixel.yHigh_toNat (x : Pixel) : (x.y.extractLsb' 4 8).toNat = x.y.toNat / 16 :=
  toNat_extractLsb'_top x.y rfl

/-- R151: the top 5, 6 and 5 bits of R, G and B. -/
theorem rgb565_toNat (x : Pixel) :
    (rgb565 x).toNat = x.r.toNat / 8 * 2048 + x.g.toNat / 4 * 32 + x.b.toNat / 8 := by
  rw [rgb565, toNat_append_eq_add, toNat_append_eq_add, toNat_extractLsb'_top x.r rfl, toNat_extractLsb'_top x.g rfl,
    toNat_extractLsb'_top x.b rfl]
  omega

/-! ### The packed row of each format -/

@[simp] theorem packRow_rgb888 (pixels : List Pixel) :
    packRow .rgb888 pixels = pixels.flatMap fun x => [x.r, x.g, x.b] := rfl

@[simp] theorem packRow_mono12p (pixels : List Pixel) : packRow .mono12p pixels = packPairs pixels := rfl

theorem packRow_rgb565 (pixels : List Pixel) :
    packRow .rgb565 pixels = pixels.flatMap fun x =>
      [BitVec.ofNat 8 ((x.r.toNat / 8 * 2048 + x.g.toNat / 4 * 32 + x.b.toNat / 8) % 256),
        BitVec.ofNat 8 ((x.r.toNat / 8 * 2048 + x.g.toNat / 4 * 32 + x.b.toNat / 8) / 256)] := by
  simp only [← rgb565_toNat, ← wordBytes_eq_ofNat]
  rfl

theorem packRow_mono8_toNat (pixels : List Pixel) :
    (packRow .mono8 pixels).map BitVec.toNat = pixels.map fun x => x.y.toNat / 16 :=
  List.map_map.trans (List.map_congr_left fun x _ => x.yHigh_toNat)

/-! ### The pairs of MONO12P -/

/-- R152: the three bytes of one pair; the third has a's low half below b's. -/
theorem packPairs_cons_cons_toNat (a b : Pixel) (rest : List Pixel) :
    ((packPairs (a :: b :: rest)).take 3).map BitVec.toNat =
      [a.y.toNat / 16, b.y.toNat / 16, a.y.toNat % 16 + 16 * (b.y.toNat % 16)] := by
  have third : (b.y.extractLsb' 0 4 ++ a.y.extractLsb' 0 4).toNat = a.y.toNat % 16 + 16 * (b.y.toNat % 16) := by
    rw [toNat_append_eq_add, toNat_extractLsb'_low, toNat_extractLsb'_low]
    omega
  simp only [packPairs, List.take_succ_cons, List.take_zero, List.map_cons, List.map_nil, Pixel.yHigh_toNat, third]

/-- Pairs that are cut off a row take their three bytes each with them. -/
theorem packPairs_drop (i : Nat) (pixels : List Pixel) (whole : 2 * i ≤ pixels.length) :
    (packPairs pixels).drop (3 * i) = packPairs (pixels.drop (2 * i)) := by
  induction i generalizing pixels with
  | zero => rfl
  | succ i ih =>
    match pixels with
    | a :: b :: rest => exact ih rest (by simpa [Nat.mul_succ] using whole)
    | [_] => exact absurd whole (by rw [List.length_singleton]; omega)
    | [] => exact absurd whole (Nat.not_succ_le_zero _)

/-- With no pixel left over, a row is its pairs' triples. -/
theorem two_mul_length_packPairs (pixels : List Pixel) (even : pixels.length % 2 = 0) :
    2 * (packPairs pixels).length = 3 * pixels.length := by
  induction pixels using packPairs.induct with
  | case1 a b rest ih =>
    simp only [packPairs, List.length_cons] at even ⊢
    have := ih (by omega)
    omega
  | case2 a => simp at even
  | case3 => rfl

theorem packPairs_triple_toNat {pixels : List Pixel} {i : Nat} {a b : Pixel} (first : pixels[2 * i]? = some a)
    (second : pixels[2 * i + 1]? = some b) :
    (((packPairs pixels).drop (3 * i)).take 3).map BitVec.toNat =
      [a.y.toNat / 16, b.y.toNat / 16, a.y.toNat % 16 + 16 * (b.y.toNat % 16)] := by
  obtain ⟨hasFirst, rfl⟩ := List.getElem?_eq_some_iff.1 first
  obtain ⟨hasSecond, rfl⟩ := List.getElem?_eq_some_iff.1 second
  rw [packPairs_drop i pixels hasFirst.le, List.drop_eq_getElem_cons hasFirst, List.drop_eq_getElem_cons hasSecond]
  exact packPairs_cons_cons_toNat _ _ _

/-- Settles O45: every packed byte is a field of a pixel's values, and a field is a quotient or a remainder; a MONO12P
row is read at pair i by cutting the pairs before it off. -/
theorem colorAndMonochromePacking : Obligations.ColorAndMonochromePacking := by
  refine ⟨fun pixels p => ⟨packRow_rgb888 pixels, packRow_rgb565 pixels, rfl, ?monoRgb565⟩,
    fun pixels p => ⟨packRow_mono8_toNat pixels, ?colorMono8, ?colorLowBits, fun even => ⟨?pairsLength, ?triples⟩⟩⟩
  case monoRgb565 => exact packRow_rgb565 [pixelOf .mono p]
  case colorMono8 =>
    rw [packRow_mono8_toNat, List.map_singleton, color_y_toNat]
    congr 1
    omega
  case colorLowBits =>
    rw [color_y_toNat]
    exact Nat.mul_mod_right 4 _
  case pairsLength =>
    have triples := two_mul_length_packPairs pixels even
    rw [packRow_mono12p]
    omega
  case triples =>
    intro i _ a first b second
    exact packPairs_triple_toNat first second

end Sys2Proof.Machine
end

section
/-! The strap loader under every command: only the resets and the end of a strap attempt reach it. -/

namespace Sys2Proof.Machine

section Strap

variable (s : State)

/-! ### The transmitter, the timers and the sensor port -/

@[simp] theorem State.linkBusy_strap : s.linkBusy.strap = s.strap := rfl
@[simp] theorem State.report_strap (tx : Transmitter) (r : Report) : (s.report tx r).strap = s.strap := rfl
@[simp] theorem State.startControl_strap (c : QueuedCell) : (s.startControl c).strap = s.strap := rfl
@[simp] theorem State.startTile_strap (e : StoreEntry) : (s.startTile e).strap = s.strap := rfl

@[simp] theorem State.grantTurn_strap : s.grantTurn.strap = s.strap := by
  unfold State.grantTurn
  repeat' split
  all_goals simp

@[simp] theorem State.slotBegins_strap (j : Nat) : (s.slotBegins j).strap = s.strap := by
  unfold State.slotBegins
  repeat' split
  all_goals simp

@[simp] theorem State.found_strap : s.found.strap = s.strap := by
  simp [State.found]

@[simp] theorem State.queryExpired_strap : s.queryExpired.strap = s.strap := by
  unfold State.queryExpired
  repeat' split
  all_goals simp

@[simp] theorem State.endTile_strap (n : SlotNo) (f : Word) (row : Nat) (sort : StoreSort) (missing : Nat) :
    (s.endTile n f row sort missing).strap = s.strap := rfl

@[simp] theorem endEarly_strap (n : SlotNo) : (endEarly s n).strap = s.strap := by
  unfold endEarly
  split <;> simp

@[simp] theorem beginCapture_strap (n : SlotNo) : (beginCapture s n).strap = s.strap := by
  unfold beginCapture
  split <;> simp

@[simp] theorem State.frameStarts_strap : s.frameStarts.strap = s.strap :=
  State.forSlots_reads _ State.strap beginCapture_strap

@[simp] theorem State.frameEnds_strap : s.frameEnds.strap = s.strap :=
  State.forSlots_reads _ State.strap endEarly_strap

@[simp] theorem State.dropLine_strap : s.dropLine.strap = s.strap := rfl

@[simp] theorem State.handleRow_strap (n : SlotNo) (f : Word) (next missing rows : Nat) (row : Option (List Byte)) :
    (s.handleRow n f next missing rows row).strap = s.strap := by
  cases row with
  | none =>
    simp only [State.handleRow]
    split <;> simp
  | some packed =>
    simp only [State.handleRow]
    repeat' split
    all_goals simp

@[simp] theorem takeLine_strap (row : Nat) (pixels : List Pixel) (n : SlotNo) :
    (takeLine row pixels s n).strap = s.strap := by
  unfold takeLine
  repeat' split
  all_goals simp

/-! ### The local port -/

@[simp] theorem State.setReply_strap (r : Option Reply) : (s.setReply r).strap = s.strap := rfl
@[simp] theorem State.setLdo_strap (bytes : List Byte) : (s.setLdo bytes).strap = s.strap := rfl
@[simp] theorem State.replyWith_strap (st : Status) (body : List Byte) : (s.replyWith st body).strap = s.strap := rfl
@[simp] theorem State.overrun_strap : s.overrun.strap = s.strap := rfl

@[simp] theorem State.readWindow_strap (n : Nat) : (s.readWindow n).strap = s.strap := by
  unfold State.readWindow
  repeat' split
  all_goals simp

@[simp] theorem State.runStatus_strap : s.runStatus.strap = s.strap := rfl
@[simp] theorem State.runTable_strap : s.runTable.strap = s.strap := rfl
@[simp] theorem State.runRoster_strap : s.runRoster.strap = s.strap := rfl

@[simp] theorem State.runCounters_strap (body : List Byte) : (s.runCounters body).strap = s.strap := by
  unfold State.runCounters
  split <;> simp

@[simp] theorem State.runNotice_strap : s.runNotice.strap = s.strap := by
  unfold State.runNotice
  split <;> simp

@[simp] theorem State.slotOff_strap (n : SlotNo) : (s.slotOff n).strap = s.strap := by
  simp only [State.slotOff]
  repeat' split
  all_goals simp

@[simp] theorem State.runSlotOff_strap (body : List Byte) : (s.runSlotOff body).strap = s.strap := by
  simp [State.runSlotOff]

@[simp] theorem State.runSlotOn_strap (body : List Byte) : (s.runSlotOn body).strap = s.strap := by
  simp only [State.runSlotOn]
  repeat' split
  all_goals simp

@[simp] theorem State.runSlotSet_strap (body : List Byte) : (s.runSlotSet body).strap = s.strap := by
  simp only [State.runSlotSet]
  split <;> simp

@[simp] theorem State.runLeave_strap : s.runLeave.strap = s.strap := by
  simp [State.runLeave]

@[simp] theorem State.runRejoin_strap : s.runRejoin.strap = s.strap := by
  simp [State.runRejoin]

/-- A judged request reaches the strap loader only by its own rule. -/
theorem State.judgeRequest_strap (code : Nat) (body : List Byte) {run : State → State}
    (runs : ∀ t : State, (run t).strap = t.strap) : (s.judgeRequest code body run).strap = s.strap := by
  unfold State.judgeRequest
  repeat' split
  all_goals simp [runs]

theorem State.request_strap (code : Nat) (body : List Byte) {run : State → State}
    (runs : ∀ t : State, (run t).strap = t.strap) : (s.request code body run).strap = s.strap := by
  unfold State.request
  repeat' split
  all_goals simp [State.judgeRequest_strap, runs]

@[simp] theorem State.refusedWindow_strap (n : Nat) (why : Status) : (s.refusedWindow n why).strap = s.strap := by
  unfold State.refusedWindow
  repeat' split
  all_goals simp

end Strap

/-! ### Resets -/

section Resets

variable (s : State)

/-- R173: the record that a reset leaves; the rest of the loader takes its reset values (R178, R180). -/
@[simp] theorem State.resetAll_strap (cause : ResetCause) (count : Byte) (line : Bool) :
    (s.resetAll cause count line).strap = { State.reset.strap with cause := cause, resetCount := count } := rfl

/-- R200: a whole RESET frame with an empty body, while RESETn is released. -/
theorem State.resetRequest_nil (released : s.resetLine = false) :
    s.resetRequest [] = s.localReset.setLdo (requestLdo s.port.reply 3) := by
  simp [State.resetRequest, released]

/-- R205, R189: any other whole RESET frame is without effect, lost or refused. -/
theorem State.resetRequest_strap {body : List Byte} (noReset : ¬(body = [] ∧ s.resetLine = false)) :
    (s.resetRequest body).strap = s.strap := by
  unfold State.resetRequest
  simp only []
  split
  · rfl
  · next released =>
    rw [if_neg fun empty => noReset ⟨empty, Bool.eq_false_iff.2 released⟩]
    split <;> rfl

/-! ### What a request window spells (R187) -/

theorem requestOf_eq_reset_iff {code : Nat} {body b : List Byte} :
    requestOf code body = some (.reset b) ↔ code = 11 ∧ body = b := by
  constructor
  · unfold requestOf
    split <;> simp
  · rintro ⟨rfl, rfl⟩
    rfl

/-- A window spells a RESET when it is a whole frame of code 11. -/
theorem decodeWindowBytes_cons_eq_reset_iff {first : Byte} {rest b : List Byte} :
    decodeWindowBytes (first :: rest) = some (.reset b) ↔
      frameWhole (first :: rest) = true ∧ first.toNat = 11 ∧ frameBody (first :: rest) = b := by
  rw [← requestOf_eq_reset_iff]
  simp only [decodeWindowBytes]
  split
  · next zero =>
    rw [eq_of_beq zero]
    simp [requestOf]
  · split
    · next whole =>
      cases requestOf first.toNat (frameBody (first :: rest)) <;> simp [whole]
    · next broken => simp [broken]

/-- Every request by its code but a RESET keeps the strap loader. -/
theorem State.requestByCode_strap {code : Nat} {body : List Byte} {t : State} (notReset : code ≠ 11)
    (known : s.requestByCode code body = some t) : t.strap = s.strap := by
  unfold State.requestByCode at known
  split at known
  case h_11 => exact absurd rfl notReset
  case h_12 => cases known
  all_goals
    obtain rfl := Option.some.inj known
    exact s.request_strap _ _ (by simp)

/-- A window that spells a RESET is judged as one (R187). -/
theorem State.window_of_reset {bytes body : List Byte} (spells : decodeWindowBytes bytes = some (.reset body)) :
    s.window bytes = s.resetRequest body := by
  cases bytes with
  | nil => cases spells
  | cons first rest =>
    obtain ⟨whole, code, rfl⟩ := decodeWindowBytes_cons_eq_reset_iff.1 spells
    have nonzero : (first == 0) = false := beq_false_of_ne fun zero => by simp [zero] at code
    rw [State.window, nonzero, if_neg Bool.false_ne_true, if_pos whole, code]
    rfl

theorem State.window_strap_of_not_reset {bytes : List Byte}
    (notReset : ∀ body, decodeWindowBytes bytes ≠ some (.reset body)) : (s.window bytes).strap = s.strap := by
  cases bytes with
  | nil => rfl
  | cons first rest =>
    simp only [State.window]
    split
    · exact s.readWindow_strap _
    · split
      · next whole =>
        have code : first.toNat ≠ 11 := fun eleven =>
          notReset _ (decodeWindowBytes_cons_eq_reset_iff.2 ⟨whole, eleven, rfl⟩)
        cases known : s.requestByCode first.toNat (frameBody (first :: rest)) with
        | none => exact s.refusedWindow_strap _ _
        | some t => exact s.requestByCode_strap code known
      · exact s.refusedWindow_strap _ _

/-- A window that makes no reset (R205, R200) keeps the strap loader. -/
theorem State.window_strap {bytes : List Byte}
    (noReset : ¬(decodeWindowBytes bytes = some (.reset []) ∧ s.resetLine = false)) :
    (s.window bytes).strap = s.strap := by
  by_cases spells : ∃ body, decodeWindowBytes bytes = some (.reset body)
  · obtain ⟨body, spells⟩ := spells
    rw [s.window_of_reset spells]
    exact s.resetRequest_strap fun ⟨empty, released⟩ => noReset ⟨empty ▸ spells, released⟩
  · exact s.window_strap_of_not_reset fun body is => spells ⟨body, is⟩

/-! ### The end of a strap attempt -/

@[simp] theorem State.takeIntoUse_strap : s.takeIntoUse.strap = s.strap := by
  unfold State.takeIntoUse
  split <;> simp

@[simp] theorem loadSlot_strap (n : SlotNo) : (loadSlot s n).strap = s.strap := by
  simp only [loadSlot]
  split <;> simp

/-- R180: a passing image becomes the working copy. -/
@[simp] theorem State.enterListen_strap (words : List Word) :
    (s.enterListen words).strap = { s.strap with words := words } := by
  simp only [State.enterListen, State.takeIntoUse_strap, State.startSilence_strap, State.deposit_strap,
    State.setState_strap]
  exact State.forSlots_reads _ State.strap loadSlot_strap

/-- R178: a failed attempt is counted and leaves its detail. -/
@[simp] theorem State.strapFailed_strap (d : StrapDetail) :
    (s.strapFailed d).strap = { s.strap with failed := s.strap.failed + 1, detail := d } := by
  simp only [State.strapFailed]
  split <;> simp

end Resets

/-! ### Every command -/

section Commands

variable {s t : State}

theorem strap_of_next {u : State} (next : (.next u : Host.Outcome State Fault Refusal) = .next t)
    (keeps : u.strap = s.strap) : t.strap = s.strap := by
  obtain rfl := Host.Outcome.next.inj next
  exact keeps

theorem strap_ite {p : Prop} [Decidable p] {u v : State} (yes : u.strap = s.strap) (no : v.strap = s.strap) :
    (if p then u else v).strap = s.strap := by
  split
  · exact yes
  · exact no

/-- A command that makes no reset and ends no strap attempt keeps the strap loader. -/
theorem exec_strap {c : Instr} (noReset : s.resetBy c = none) (noAttempt : ∀ read, c ≠ .strapAttemptEnd read)
    (next : exec c s = .next t) : t.strap = s.strap := by
  cases c with
  | powerOn line => cases noReset
  | resetnAsserted =>
    have asserted : s.resetLine = true := by simpa [State.resetBy] using noReset
    exact strap_of_next next (by rw [if_pos asserted])
  | resetnReleased => exact strap_of_next next rfl
  | strapAttemptEnd read => exact absurd rfl (noAttempt read)
  | linkBusy => exact strap_of_next next s.linkBusy_strap
  | readbackMismatch => exact strap_of_next next (strap_ite (s.report_strap _ _) rfl)
  | abortMarkComplete => exact strap_of_next next (strap_ite rfl rfl)
  | lastBitCompared => exact strap_of_next next (strap_ite (s.report_strap _ _) rfl)
  | cellEnd levels => exact strap_of_next next (s.cellEnds_frame _).1
  | slotStart index => exact strap_of_next next (s.slotBegins_strap index)
  | silenceTimerExpiry => exact strap_of_next next (strap_ite s.found_strap rfl)
  | frameTimerExpiry => exact strap_of_next next (strap_ite (strap_ite (State.enqueue_strap _ _) rfl) rfl)
  | queryTimerExpiry => exact strap_of_next next (strap_ite (by simp) rfl)
  | sensorFrameStart =>
    exact strap_of_next next (strap_ite ((State.frameStarts_strap _).trans (strap_ite s.frameEnds_strap rfl)) rfl)
  | sensorLine pixels =>
    exact strap_of_next next (strap_ite (State.forSlots_reads _ State.strap (takeLine_strap · _ _)) rfl)
  | sensorFrameEnd => exact strap_of_next next (strap_ite s.frameEnds_strap rfl)
  | readWindow n => exact strap_of_next next (s.readWindow_strap n)
  | requestWindow bytes =>
    exact strap_of_next next (s.window_strap fun resets => by simp [State.resetBy, resets] at noReset)
  | status body => exact strap_of_next next (s.request_strap 1 body State.runStatus_strap)
  | table body => exact strap_of_next next (s.request_strap 2 body State.runTable_strap)
  | roster body => exact strap_of_next next (s.request_strap 3 body State.runRoster_strap)
  | counters body => exact strap_of_next next (s.request_strap 4 body (State.runCounters_strap · body))
  | notice body => exact strap_of_next next (s.request_strap 5 body State.runNotice_strap)
  | slotOff body => exact strap_of_next next (s.request_strap 6 body (State.runSlotOff_strap · body))
  | slotOn body => exact strap_of_next next (s.request_strap 7 body (State.runSlotOn_strap · body))
  | slotSet body => exact strap_of_next next (s.request_strap 8 body (State.runSlotSet_strap · body))
  | leave body => exact strap_of_next next (s.request_strap 9 body State.runLeave_strap)
  | rejoin body => exact strap_of_next next (s.request_strap 10 body State.runRejoin_strap)
  | reset body =>
    exact strap_of_next next (s.resetRequest_strap fun resets => by simp [State.resetBy, resets] at noReset)

/-- R178, R180: the end of an attempt changes the working copy, or the failed count and the detail, and the record of
the transaction; it keeps the reset cause record. -/
theorem strapAttemptEnd_keeps_record {read : StrapRead} (next : exec (.strapAttemptEnd read) s = .next t) :
    t.strap.cause = s.strap.cause ∧ t.strap.resetCount = s.strap.resetCount := by
  obtain rfl := Host.Outcome.next.inj next
  split
  · cases judgeRead read with
    | inl detail => simp
    | inr words => simp
  · exact ⟨rfl, rfl⟩

/-- R172, R173: a command that resets the station sets the record, whatever spells it. -/
theorem exec_strap_of_reset {c : Instr} {cause : ResetCause} (resets : s.resetBy c = some cause)
    (next : exec c s = .next t) :
    t.strap = { State.reset.strap with
      cause := cause, resetCount := if cause = .power then 0 else satInc8 s.strap.resetCount } := by
  cases c with
  | powerOn line =>
    obtain rfl := Option.some.inj resets
    obtain rfl := Host.Outcome.next.inj next
    rfl
  | resetnAsserted =>
    obtain ⟨released, rfl⟩ : s.resetLine = false ∧ .line = cause := by simpa [State.resetBy] using resets
    obtain rfl := Host.Outcome.next.inj next
    rw [if_neg (by simp [released])]
    rfl
  | reset body =>
    obtain ⟨⟨rfl, released⟩, rfl⟩ : (body = [] ∧ s.resetLine = false) ∧ .localPort = cause := by
      simpa [State.resetBy] using resets
    obtain rfl := Host.Outcome.next.inj next
    rw [s.resetRequest_nil released]
    rfl
  | requestWindow bytes =>
    obtain ⟨⟨spells, released⟩, rfl⟩ :
        (decodeWindowBytes bytes = some (.reset []) ∧ s.resetLine = false) ∧ .localPort = cause := by
      simpa [State.resetBy] using resets
    obtain rfl := Host.Outcome.next.inj next
    rw [s.window_of_reset spells, s.resetRequest_nil released]
    rfl
  | _ => cases resets

theorem exec_keeps_record {c : Instr} (noReset : s.resetBy c = none) (next : exec c s = .next t) :
    t.strap.cause = s.strap.cause ∧ t.strap.resetCount = s.strap.resetCount := by
  by_cases attempt : ∃ read, c = .strapAttemptEnd read
  · obtain ⟨read, rfl⟩ := attempt
    exact strapAttemptEnd_keeps_record next
  · rw [exec_strap noReset (fun read is => attempt ⟨read, is⟩) next]
    exact ⟨rfl, rfl⟩

end Commands

/-- Settles O5: a reset leaves the loader's reset values with its own record, and of the other commands only the end of
a strap attempt reaches the loader. -/
theorem resetCauseRecord : Obligations.ResetCauseRecord := by
  intro c s t next
  refine ⟨?_, rfl, rfl⟩
  cases resets : s.resetBy c with
  | none => exact exec_keeps_record resets next
  | some cause =>
    rw [exec_strap_of_reset resets next]
    cases cause with
    | power => exact ⟨rfl, rfl⟩
    | line => exact ⟨rfl, satInc8_toNat _⟩
    | localPort => exact ⟨rfl, satInc8_toNat _⟩

end Sys2Proof.Machine
end

section
/-! The judgement of a strap image (R176, R177): the words as numbers, the fields of word 1, and the table's rows, whose
first failing one gives the detail. -/

namespace Sys2Proof.Machine

/-! ### The words and their fields as numbers -/

/-- A word is read less significant byte first. -/
theorem wordAt_toNat (bytes : List Byte) (i : Nat) :
    (wordAt bytes i).toNat = (bytes.getD i 0).toNat + 256 * (bytes.getD (i + 1) 0).toNat := by
  rw [wordAt, toNat_append_eq_add]
  omega

theorem strapWord_imageWords (bytes : List Byte) {k : Nat} (below : k < 36) :
    strapWord (imageWords bytes) k = wordAt bytes (2 * k) := by
  rw [strapWord, imageWords, List.getD_eq_getElem?_getD, List.getElem?_map, List.getElem?_range below]
  rfl

section Fields

variable (words : List Word)

/-- Bits 4 to 7 of word 1. -/
theorem strapSensorCode_eq : strapSensorCode words = (strapWord words 1).toNat / 16 % 16 := by
  rw [strapSensorCode, BitVec.extractLsb'_toNat, Nat.shiftRight_eq_div_pow]

/-- Bits 8 to 11 of word 1. -/
theorem strapHelloInterval_eq : strapHelloInterval words = (strapWord words 1).toNat / 256 % 16 := by
  rw [strapHelloInterval, BitVec.extractLsb'_toNat, Nat.shiftRight_eq_div_pow]

/-- Bits 12 to 15 of word 1. -/
theorem strapRosterTimeout_eq : strapRosterTimeout words = (strapWord words 1).toNat / 4096 :=
  toNat_extractLsb'_top (strapWord words 1) rfl

/-- Four bits hold no more than 15, so the table's upper bound of the timeout never fails. -/
theorem strapRosterTimeout_le : strapRosterTimeout words ≤ 15 :=
  Nat.le_of_lt_succ ((strapWord words 1).extractLsb' 12 4).isLt

end Fields

/-- The carries out of bit 15 that the running sum loses are the multiples of 65536. -/
theorem foldl_add_toNat (words : List Word) (sum : Word) :
    (words.foldl (· + ·) sum).toNat = (sum.toNat + (words.map BitVec.toNat).sum) % 65536 := by
  induction words generalizing sum with
  | nil => exact (Nat.mod_eq_of_lt sum.isLt).symm
  | cons w rest ih =>
    rw [List.foldl_cons, ih, BitVec.toNat_add, List.map_cons, List.sum_cons, ← Nat.add_assoc, Nat.mod_add_mod]

theorem wordSum_toNat (words : List Word) : (wordSum words).toNat = (words.map BitVec.toNat).sum % 65536 :=
  (foldl_add_toNat words 0).trans (congrArg (· % 65536) (Nat.zero_add _))

/-! ### The table's rows -/

theorem bitVec_bne_iff_toNat_ne {n : Nat} (x y : BitVec n) : (x != y) = true ↔ x.toNat ≠ y.toNat :=
  bne_iff_ne.trans BitVec.toNat_inj.not.symm

/-- A field fails the bounds of its row when it is outside the row's range. -/
theorem outOfBounds_iff (n lo hi : Nat) : (decide (n < lo) || decide (hi < n)) = true ↔ n ∉ Finset.Icc lo hi := by
  rw [Bool.or_eq_true, decide_eq_true_iff, decide_eq_true_iff, Finset.mem_Icc]
  omega

/-- The first failure of a list of judgements is the head's, or else the first of the rest. -/
theorem firstFailure_cons {α : Type} (fails : Prop) [Decidable fails] (detail : α) (rest : List (Bool × α)) :
    (((decide fails, detail) :: rest).find? Prod.fst).map Prod.snd =
      if fails then some detail else (rest.find? Prod.fst).map Prod.snd := by
  by_cases h : fails <;> simp [h]

/-- Settles O6: the judgement is a chain of conditions in the table's order, and each condition is its row's. -/
theorem strapImageIsJudgedInOrder : Obligations.StrapImageIsJudgedInOrder := by
  refine ⟨fun bytes k below => ?words, fun words => ⟨fun bytes same => ?read, ?judged⟩⟩
  case words => rw [strapWord_imageWords bytes below, wordAt_toNat]
  case read => subst same; rfl
  case judged =>
    rw [judgeImage, judgeFields]
    simp only [firstFailure_cons, List.find?_nil, Option.map_none]
    refine if_congr ?tag rfl (if_congr ?checksum rfl (if_congr ?sensorKind rfl (if_congr ?helloInterval rfl
      (if_congr ?rosterTimeout rfl (if_congr ?divider rfl (if_congr ?frameTimeout rfl (if_congr ?silenceWindow rfl
        (if_congr ?compositeW rfl (if_congr ?compositeH rfl rfl)))))))))
    case tag => exact bitVec_bne_iff_toNat_ne _ _
    case checksum => rw [bitVec_bne_iff_toNat_ne, wordSum_toNat]; rfl
    case sensorKind =>
      rw [strapSensorCode_eq, strapWord, List.mem_pair]
      omega
    case helloInterval => rw [strapHelloInterval_eq]; exact outOfBounds_iff _ _ _
    case rosterTimeout =>
      have fits := strapRosterTimeout_le words
      rw [strapRosterTimeout_eq, strapWord] at fits
      rw [Bool.or_eq_true, decide_eq_true_iff, decide_eq_true_iff, Finset.mem_Icc, strapHelloInterval_eq,
        strapRosterTimeout_eq, strapWord]
      omega
    case divider => exact outOfBounds_iff _ _ _
    case frameTimeout => exact outOfBounds_iff _ _ _
    case silenceWindow => exact outOfBounds_iff _ _ _
    case compositeW => rw [Bool.or_eq_true, outOfBounds_iff, bne_iff_ne]; rfl
    case compositeH => exact outOfBounds_iff _ _ _

end Sys2Proof.Machine
end

section
set_option Elab.async false
/-! What a command can do to the station, said once: the parts that every command but CELL_END is made of, and the steps
as runs of these parts. An invariant that each part keeps is kept by every such command. -/

namespace Sys2Proof.Machine

open Relation (ReflTransGen)

/-- The parts that only some commands have: which of them a run may hold. -/
structure Scope where
  /-- A reset (R172). -/
  resets : Prop
  /-- A change of the RESETn level alone. -/
  releases : Prop
  /-- The end of a strap attempt (R178). -/
  attempts : Prop
  /-- A transmission's start, at a slot of the station's rank (R121). -/
  starts : Prop
  /-- REJOIN in LEFT (R75). -/
  rejoins : Prop
  /-- The expiry of the query timer (R89). -/
  expires : Prop

/-- One part of a command other than CELL_END, with the context in which it occurs, in a run that may hold what `w`
allows. -/
inductive EventIn (w : Scope) (s : State) : State → Prop
  /-- Notices, counters, the reply buffer and LDO: no more notices wait than before, or at most eight (R201). -/
  | port (p : PortUnit) (few : p.notices.length ≤ max s.port.notices.length 8) : EventIn w s { s with port := p }
  | reset (cause : ResetCause) (count : Byte) (line : Bool) (may : w.resets) : EventIn w s (s.resetAll cause count line)
  | resetLine (line : Bool) (may : w.releases) : EventIn w s { s with resetLine := line }
  | signals (x : List StrapSignal) (may : w.attempts) : EventIn w s { s with strap := { s.strap with signals := x } }
  | loads (words : List Word) (strap : s.membership.state = .strap) (passes : judgeImage words = none)
      (may : w.attempts) :
      EventIn w s (s.enterListen words)
  | fails (d : StrapDetail) (strap : s.membership.state = .strap) (may : w.attempts) : EventIn w s (s.strapFailed d)
  | linkBusy : EventIn w s s.linkBusy
  | mismatch (sending : s.link.transmitter = .sending) : EventIn w s (s.report .marking .mismatched)
  | matched (sending : s.link.transmitter = .sending) : EventIn w s (s.report .idle .matched)
  | markDone (marking : s.link.transmitter = .marking) :
      EventIn w s { s with link := { s.link with transmitter := .idle } }
  | slot (j : Nat) (running : s.ladder.grid ≠ .stopped) :
    EventIn w s { s with ladder := { s.ladder with grid := .running (some j) } }
  | control (c : QueuedCell) (selected : s.selected = some (.queue c.kind))
      (first : (s.queue.find? fun d => d.kind == c.kind) = some c) (running : s.ladder.grid ≠ .stopped)
      (idle : s.link.busy = false) (may : w.starts) : EventIn w s (s.startControl c)
  | tile (e : StoreEntry) (rest : List StoreEntry) (selected : s.selected = some .store) (first : s.store = e :: rest)
      (running : s.ladder.grid ≠ .stopped) (idle : s.link.busy = false) (may : w.starts) : EventIn w s (s.startTile e)
  | founds (listen : s.membership.state = .listen) : EventIn w s s.found
  | frameTimerStops : EventIn w s (s.setFrameTimer false)
  | closeQueued (member : s.membership.state = .member) : EventIn w s (s.enqueue (.close s.frame.number))
  | queryRepeats (running : s.recovery.timerRunning = true) (few : s.recovery.attempts < 3) :
      EventIn w s ({ s with recovery := ⟨false, s.recovery.attempts + 1, s.recovery.dumpPending⟩ }.enqueue .query)
  | queryTimerStops : EventIn w s (s.setQueryTimer false)
  | selfTrusts (suspect : s.membership.state = .suspect) (running : s.recovery.timerRunning = true) : EventIn w s s.selfTrust
  | fallsBack (syncing : s.membership.state = .syncing) (running : s.recovery.timerRunning = true)
      (may : w.expires) : EventIn w s s.syncingFallback
  | settles : EventIn w s s.settleAttempts
  | sensor (inFrame : Bool) (row : Nat) (few : row ≤ max s.capture.rowCounter 4096) :
      EventIn w s { s with capture := { s.capture with inFrame := inFrame, rowCounter := row } }
  | captureBegins (n : SlotNo) : EventIn w s (beginCapture s n)
  | captureEnds (n : SlotNo) : EventIn w s (endEarly s n)
  | line (row : Nat) (pixels : List Pixel) (n : SlotNo) : EventIn w s (takeLine row pixels s n)
  | slotOff (n : SlotNo) (allows : stateAllows s.membership.state 6 = true) (noBye : s.byeQueued = false) :
      EventIn w s (s.slotOff n)
  | slotOn (n : SlotNo) (allows : stateAllows s.membership.state 6 = true) (noBye : s.byeQueued = false)
      (off : (s.slotAt n).state = .off) :
      EventIn w s ((s.setSlot n { s.slotAt n with state := .wanted, startOn := false }).claimIfReady n)
  | slotSet (n : SlotNo) (sl : Slot) (off : (s.slotAt n).state = .off) (stays : sl.state = .off)
      (allows : stateAllows s.membership.state 6 = true) : EventIn w s (s.setSlot n sl)
  | leave (member : s.membership.state = .member) : EventIn w s (s.enqueue .bye)
  | rejoin (left : s.membership.state = .left) (may : w.rejoins) : EventIn w s (s.clearPlan.setState .listen).startSilence

/-- A command's parts, one after the other. -/
abbrev EventsIn (w : Scope) : State → State → Prop := ReflTransGen (EventIn w)

/-- Every part. -/
abbrev Event : State → State → Prop := EventIn ⟨True, True, True, True, True, True⟩

/-- Any parts, one after the other. -/
abbrev Events : State → State → Prop := ReflTransGen Event

section Parts

variable {w : Scope} (s : State)

/-- A deposit writes the port only. -/
theorem State.deposit_eq (n : Notice) : s.deposit n = { s with port := (s.deposit n).port } := by
  unfold State.deposit
  split <;> rfl

theorem EventIn.deposit (n : Notice) : EventIn w s (s.deposit n) := by
  rw [s.deposit_eq n]
  refine .port _ ?_
  obtain ⟨few, added, -⟩ | ⟨-, same, -⟩ := s.deposit_cases n
  · rw [added, List.length_append, List.length_singleton]; omega
  · rw [same]; omega

theorem EventIn.setReply (r : Option Reply) : EventIn w s (s.setReply r) := .port _ (Nat.le_max_left _ _)

theorem EventIn.setLdo (bytes : List Byte) : EventIn w s (s.setLdo bytes) := .port _ (Nat.le_max_left _ _)

variable {s} {t : State}

theorem EventsIn.reply (h : EventsIn w s t) (st : Status) (body : List Byte) : EventsIn w s (t.replyWith st body) :=
  h.tail (.setReply t _)

/-- What serving one slot is made of, serving the four is made of. -/
theorem EventsIn.forSlots {f : State → SlotNo → State} (part : ∀ t n, EventIn w t (f t n)) (h : EventsIn w s t) :
    EventsIn w s (t.forSlots f) :=
  State.forSlots_keeps t (fun u n => (ReflTransGen.tail · (part u n))) h

end Parts

/-! ### The requests (R189, R192 to R200) -/

section Requests

variable {w : Scope} (s : State)

theorem runCounters_events (body : List Byte) : EventsIn w s (s.runCounters body) := by
  unfold State.runCounters
  split
  · exact .single (.port _ (Nat.le_max_left _ _))
  · exact .single (.setReply s _)

theorem runNotice_events : EventsIn w s s.runNotice := by
  unfold State.runNotice
  split
  · exact .single (.setReply s _)
  · next rest waiting => exact .single (.port _ (by simp [waiting]))

variable {s} in
theorem runSlotOff_events (body : List Byte) (allows : stateAllows s.membership.state 6 = true)
    (noBye : s.byeQueued = false) : EventsIn w s (s.runSlotOff body) :=
  EventsIn.reply (.single (.slotOff _ allows noBye)) _ _

variable {s} in
theorem runSlotOn_events (body : List Byte) (allows : stateAllows s.membership.state 6 = true)
    (noBye : s.byeQueued = false) : EventsIn w s (s.runSlotOn body) := by
  unfold State.runSlotOn
  simp only []
  split
  · exact .single (.setReply s _)
  · next off =>
    split
    · exact EventsIn.reply (.single (.slotOn _ allows noBye (by simpa using off))) _ _
    · exact .single (.setReply s _)

variable {s} in
theorem runSlotSet_events (body : List Byte) (allows : stateAllows s.membership.state 6 = true) :
    EventsIn w s (s.runSlotSet body) := by
  unfold State.runSlotSet
  simp only []
  split
  · exact .single (.setReply s _)
  · next off =>
    have off : (s.slotAt (slotOfBody body)).state = .off := by simpa using off
    exact EventsIn.reply (.single (.slotSet _ _ off (by exact off) allows)) _ _

variable {s} in
theorem runRejoin_events (left : s.membership.state = .left) (may : w.rejoins) : EventsIn w s s.runRejoin :=
  EventsIn.reply (.tail (.single (.rejoin left may)) (.deposit _ _)) _ _

/-- R189: a request past its judgements has its length and runs in a state that allows it, slot requests and LEAVE without a
BYE queued. -/
theorem judgeRequest_events (code : Nat) (body : List Byte) {run : State → State}
    (runs : body.length = bodyLength code → stateAllows s.membership.state code = true → s.byeForbids code = false →
      EventsIn w s (run s)) :
    EventsIn w s (s.judgeRequest code body run) := by
  unfold State.judgeRequest
  split
  · exact .single (.setReply s _)
  next sized =>
  split
  · exact .single (.setReply s _)
  next allows =>
  split
  · exact .single (.setReply s _)
  next free =>
  split
  · exact .single (.setReply s _)
  · exact runs (by simpa using sized) (by simpa using allows) (by simpa using free)

theorem request_events (code : Nat) (body : List Byte) {run : State → State}
    (runs : ∀ t : State, body.length = bodyLength code → stateAllows t.membership.state code = true →
      t.byeForbids code = false → EventsIn w t (run t)) :
    EventsIn w s (s.request code body run) := by
  unfold State.request
  simp only []
  split
  · exact .single (.setLdo s _)
  · split
    · exact .tail (.single (.setLdo s _)) (.setReply _ _)
    · exact .trans (.single (.setLdo s _)) (judgeRequest_events _ code body (runs _))

theorem resetRequest_events (body : List Byte) (may : body = [] → s.resetLine = false → w.resets) :
    EventsIn w s (s.resetRequest body) := by
  unfold State.resetRequest
  simp only []
  split
  · exact .single (.setLdo s _)
  next released =>
  split
  · next empty => exact .tail (.single (.reset _ _ _ (may empty (Bool.eq_false_iff.2 released)))) (.setLdo _ _)
  split
  · exact .tail (.single (.setLdo s _)) (.setReply _ _)
  · exact EventsIn.reply (.single (.setLdo s _)) _ _

theorem refusedWindow_events (n : Nat) (why : Status) : EventsIn w s (s.refusedWindow n why) := by
  unfold State.refusedWindow
  simp only []
  split
  · exact .single (.setLdo s _)
  split
  · exact .tail (.single (.setLdo s _)) (.setReply _ _)
  · exact EventsIn.reply (.single (.setLdo s _)) _ _

theorem readWindow_events (n : Nat) : EventsIn w s (s.readWindow n) := by
  unfold State.readWindow
  split
  · exact .refl
  split
  · exact .single (.setLdo s _)
  split
  · exact .single (.setLdo s _)
  · simp only []
    split
    · exact .tail (.single (.setLdo s _)) (.setReply _ _)
    · exact .single (.setLdo s _)

variable (body : List Byte)

theorem statusRequest_events : EventsIn w s (s.request 1 body State.runStatus) :=
  request_events s 1 body fun t _ _ _ => .single (.setReply t _)

theorem tableRequest_events : EventsIn w s (s.request 2 body State.runTable) :=
  request_events s 2 body fun t _ _ _ => .single (.setReply t _)

theorem rosterRequest_events : EventsIn w s (s.request 3 body State.runRoster) :=
  request_events s 3 body fun t _ _ _ => .single (.setReply t _)

theorem countersRequest_events : EventsIn w s (s.request 4 body fun t => t.runCounters body) :=
  request_events s 4 body fun t _ _ _ => runCounters_events t body

theorem noticeRequest_events : EventsIn w s (s.request 5 body State.runNotice) :=
  request_events s 5 body fun t _ _ _ => runNotice_events t

theorem slotOffRequest_events : EventsIn w s (s.request 6 body fun t => t.runSlotOff body) :=
  request_events s 6 body fun _ _ allows free => runSlotOff_events body allows (by simpa [State.byeForbids] using free)

theorem slotOnRequest_events : EventsIn w s (s.request 7 body fun t => t.runSlotOn body) :=
  request_events s 7 body fun _ _ allows free => runSlotOn_events body allows (by simpa [State.byeForbids] using free)

theorem slotSetRequest_events : EventsIn w s (s.request 8 body fun t => t.runSlotSet body) :=
  request_events s 8 body fun _ _ allows _ => runSlotSet_events body allows

theorem leaveRequest_events : EventsIn w s (s.request 9 body State.runLeave) :=
  request_events s 9 body fun _ _ allows _ => EventsIn.reply (.single (.leave (by simpa [stateAllows] using allows))) _ _

theorem rejoinRequest_events (may : body = [] → w.rejoins) : EventsIn w s (s.request 10 body State.runRejoin) :=
  request_events s 10 body fun _ sized allows _ =>
    runRejoin_events (by simpa [stateAllows] using allows) (may (List.length_eq_zero_iff.1 sized))

theorem requestByCode_events {code : Nat} {t : State} (known : s.requestByCode code body = some t)
    (resets : code = 11 → body = [] → s.resetLine = false → w.resets) (rejoins : code = 10 → body = [] → w.rejoins) :
    EventsIn w s t := by
  unfold State.requestByCode at known
  split at known
  case h_12 => cases known
  all_goals obtain rfl := Option.some.inj known
  case h_1 => exact statusRequest_events s body
  case h_2 => exact tableRequest_events s body
  case h_3 => exact rosterRequest_events s body
  case h_4 => exact countersRequest_events s body
  case h_5 => exact noticeRequest_events s body
  case h_6 => exact slotOffRequest_events s body
  case h_7 => exact slotOnRequest_events s body
  case h_8 => exact slotSetRequest_events s body
  case h_9 => exact leaveRequest_events s body
  case h_10 => exact rejoinRequest_events s body (rejoins rfl)
  case h_11 => exact resetRequest_events s body (resets rfl)

/-- A window spells a REJOIN when it is a whole frame of code 10. -/
theorem decodeWindowBytes_rejoin {first : Byte} {rest : List Byte} (whole : frameWhole (first :: rest) = true)
    (code : first.toNat = 10) :
    decodeWindowBytes (first :: rest) = some (.rejoin (frameBody (first :: rest))) := by
  have nonzero : (first == 0) = false := beq_false_of_ne fun zero => by simp [zero] at code
  rw [decodeWindowBytes, nonzero, if_neg Bool.false_ne_true, if_pos whole, code]
  rfl

theorem window_events (bytes : List Byte)
    (resets : decodeWindowBytes bytes = some (.reset []) → s.resetLine = false → w.resets)
    (rejoins : decodeWindowBytes bytes = some (.rejoin []) → w.rejoins) : EventsIn w s (s.window bytes) := by
  unfold State.window
  split
  · exact .refl
  split
  · exact readWindow_events s _
  split
  · next first rest _ whole =>
    cases known : s.requestByCode first.toNat (frameBody (first :: rest)) with
    | none => exact refusedWindow_events s _ _
    | some t =>
      exact requestByCode_events s _ known
        (fun code empty => resets (decodeWindowBytes_cons_eq_reset_iff.2 ⟨whole, code, empty⟩))
        fun code empty => rejoins (empty ▸ decodeWindowBytes_rejoin whole code)
  · exact refusedWindow_events s _ _

end Requests

/-! ### The transmitter, the timers and the sensor port -/

section Others

variable {w : Scope} (s : State)

theorem grantTurn_events (running : s.ladder.grid ≠ .stopped) (idle : s.link.busy = false) (may : w.starts) :
    EventsIn w s s.grantTurn := by
  unfold State.grantTurn
  split
  · exact .refl
  · next selected =>
    split
    · exact .refl
    · next e rest first => exact .single (.tile e rest selected first running idle may)
  · next k selected =>
    split
    · exact .refl
    · next c first =>
      obtain rfl : c.kind = k := by simpa using List.find?_some first
      exact .single (.control c selected first running idle may)

theorem slotBegins_events (j : Nat) (may : w.starts) : EventsIn w s (s.slotBegins j) := by
  unfold State.slotBegins
  split
  · exact .refl
  · next last grid =>
    split
    · next begins =>
      have moves : EventIn w s { s with ladder := { s.ladder with grid := .running (some j) } } := .slot j (by simp [grid])
      simp only []
      split
      · exact .trans (.single moves) (grantTurn_events _ (by simp) (by simpa using (Bool.and_eq_true_iff.1 begins).2) may)
      · exact .single moves
    · exact .refl

theorem strapAttemptEnd_events (read : StrapRead) {t : State} (next : exec (.strapAttemptEnd read) s = .next t)
    (may : w.attempts) : EventsIn w s t := by
  obtain rfl := Host.Outcome.next.inj next
  split
  · next loading =>
    have strap : s.membership.state = .strap := by simpa using (Bool.and_eq_true_iff.1 loading).1
    have judged : ∀ words, judgeRead read = .inr words → judgeImage words = none := by
      cases read with
      | image bytes =>
        intro words
        unfold judgeRead
        simp only []
        split
        · simp
        · next passes => rintro ⟨⟩; exact passes
      | _ => intro words is; cases is
    refine .head (.signals (strapSignals read) may) ?_
    cases found : judgeRead read with
    | inl d => exact .single (.fails d strap may)
    | inr words => exact .single (.loads words strap (judged words found) may)
  · exact .refl

theorem queryExpired_events (running : s.recovery.timerRunning = true) (may : w.expires) :
    EventsIn w s s.queryExpired.settleAttempts := by
  refine .tail ?_ (.settles)
  unfold State.queryExpired
  simp only []
  split
  · next few => exact .single (.queryRepeats running few)
  · split
    · next suspect => exact .single (.selfTrusts suspect running)
    · next syncing => exact .single (.fallsBack syncing running may)
    all_goals exact .single .queryTimerStops

theorem frameEnds_events : EventsIn w s s.frameEnds :=
  EventsIn.forSlots (fun _ n => .captureEnds n) (.single (.sensor false _ (Nat.le_max_left _ _)))

theorem frameStarts_events : EventsIn w s s.frameStarts :=
  EventsIn.forSlots (fun _ n => .captureBegins n) (.single (.sensor true 0 (Nat.zero_le _)))

theorem events_ite {p : Prop} [Decidable p] {t u : State} (yes : p → EventsIn w s t) (no : EventsIn w s u) :
    EventsIn w s (if p then t else u) := by
  split
  · next h => exact yes h
  · exact no

end Others

/-- `w` allows the parts that the command can have in this state. -/
structure Scope.Covers (w : Scope) (c : Instr) (s : State) : Prop where
  resets : s.resetBy c ≠ none → w.resets
  releases : c = .resetnReleased → w.releases
  attempts : ∀ read, c = .strapAttemptEnd read → w.attempts
  starts : ∀ j, c = .slotStart j → w.starts
  rejoins : (c = .rejoin [] ∨ ∃ bytes, c = .requestWindow bytes ∧ decodeWindowBytes bytes = some (.rejoin [])) → w.rejoins
  expires : c = .queryTimerExpiry → w.expires

/-- Every command but CELL_END completes, by its parts. -/
theorem exec_runs_events {w : Scope} {c : Instr} (s : State) (covers : w.Covers c s)
    (other : ∀ levels, c ≠ .cellEnd levels) :
    ∃ t, exec c s = .next t ∧ EventsIn w s t := by
  cases c with
  | powerOn line => exact ⟨_, rfl, .single (.reset _ _ _ (covers.resets nofun))⟩
  | resetnAsserted =>
    refine ⟨_, rfl, ?_⟩
    split
    · exact .refl
    · next released => exact .single (.reset _ _ _ (covers.resets (by simp [State.resetBy, released])))
  | resetnReleased => exact ⟨_, rfl, .single (.resetLine false (covers.releases rfl))⟩
  | strapAttemptEnd read => exact ⟨_, rfl, strapAttemptEnd_events s read rfl (covers.attempts read rfl)⟩
  | linkBusy => exact ⟨_, rfl, .single .linkBusy⟩
  | readbackMismatch => exact ⟨_, rfl, events_ite s (fun h => .single (.mismatch (eq_of_beq h))) .refl⟩
  | abortMarkComplete => exact ⟨_, rfl, events_ite s (fun h => .single (.markDone (eq_of_beq h))) .refl⟩
  | lastBitCompared => exact ⟨_, rfl, events_ite s (fun h => .single (.matched (eq_of_beq h))) .refl⟩
  | cellEnd levels => exact absurd rfl (other levels)
  | slotStart j => exact ⟨_, rfl, slotBegins_events s j (covers.starts j rfl)⟩
  | silenceTimerExpiry =>
    exact ⟨_, rfl, events_ite s (fun h => .single (.founds (eq_of_beq (Bool.and_eq_true_iff.1 h).1))) .refl⟩
  | frameTimerExpiry =>
    refine ⟨_, rfl, events_ite s (fun _ => .head .frameTimerStops ?_) .refl⟩
    exact events_ite _ (fun h => .single (.closeQueued (eq_of_beq h))) .refl
  | queryTimerExpiry => exact ⟨_, rfl, events_ite s (queryExpired_events s · (covers.expires rfl)) .refl⟩
  | sensorFrameStart =>
    exact ⟨_, rfl, events_ite s (fun _ => .trans (events_ite s (fun _ => frameEnds_events s) .refl)
      (frameStarts_events _)) .refl⟩
  | sensorLine line =>
    refine ⟨_, rfl, events_ite s (fun h => EventsIn.forSlots (fun _ n => .line _ _ n) (.single (.sensor _ _ ?_))) .refl⟩
    have := of_decide_eq_true (Bool.and_eq_true_iff.1 h).2
    omega
  | sensorFrameEnd => exact ⟨_, rfl, events_ite s (fun _ => frameEnds_events s) .refl⟩
  | readWindow n => exact ⟨_, rfl, readWindow_events s n⟩
  | requestWindow bytes => exact ⟨_, rfl, window_events s bytes
      (fun spells released => covers.resets (by simp [State.resetBy, spells, released]))
      fun spells => covers.rejoins (.inr ⟨bytes, rfl, spells⟩)⟩
  | status body => exact ⟨_, rfl, statusRequest_events s body⟩
  | table body => exact ⟨_, rfl, tableRequest_events s body⟩
  | roster body => exact ⟨_, rfl, rosterRequest_events s body⟩
  | counters body => exact ⟨_, rfl, countersRequest_events s body⟩
  | notice body => exact ⟨_, rfl, noticeRequest_events s body⟩
  | slotOff body => exact ⟨_, rfl, slotOffRequest_events s body⟩
  | slotOn body => exact ⟨_, rfl, slotOnRequest_events s body⟩
  | slotSet body => exact ⟨_, rfl, slotSetRequest_events s body⟩
  | leave body => exact ⟨_, rfl, leaveRequest_events s body⟩
  | rejoin body => exact ⟨_, rfl, rejoinRequest_events s body fun empty => covers.rejoins (.inl (by rw [empty]))⟩
  | reset body =>
    exact ⟨_, rfl, resetRequest_events s body fun empty released => covers.resets (by simp [State.resetBy, empty, released])⟩

theorem exec_eventsIn {w : Scope} {c : Instr} {s t : State} (covers : w.Covers c s) (other : ∀ levels, c ≠ .cellEnd levels)
    (next : exec c s = .next t) : EventsIn w s t := by
  obtain ⟨u, result, run⟩ := exec_runs_events s covers other
  obtain rfl := Host.Outcome.next.inj (result.symm.trans next)
  exact run

theorem exec_events {c : Instr} {s t : State} (other : ∀ levels, c ≠ .cellEnd levels) (next : exec c s = .next t) :
    Events s t :=
  exec_eventsIn ⟨fun _ => trivial, fun _ => trivial, fun _ _ => trivial, fun _ _ => trivial, fun _ => trivial,
    fun _ => trivial⟩
    other next

/-- A step idles, runs a command but CELL_END by its parts, or ends a cell. -/
theorem step_cases {s t : State} (next : step s = .next t) :
    t = s ∨ (∃ rest, Events { s with pending := rest } t) ∨
      ∃ levels rest, s.pending = .cellEnd levels :: rest ∧
        t = State.cellEnds { s with pending := rest } (judgeLevels levels) := by
  unfold step at next
  split at next
  · exact .inl (Host.Outcome.next.inj next).symm
  · next c rest waiting =>
    by_cases cell : ∃ levels, c = .cellEnd levels
    · obtain ⟨levels, rfl⟩ := cell
      exact .inr (.inr ⟨levels, rest, waiting, (Host.Outcome.next.inj next).symm⟩)
    · exact .inr (.inl ⟨rest, exec_events (fun levels is => cell ⟨levels, is⟩) next⟩)

/-- What each part keeps, a run of parts keeps. -/
theorem EventsIn.keep {w : Scope} {P : State → Prop} (parts : ∀ s t, EventIn w s t → P s → P t) {s t : State}
    (run : EventsIn w s t) (h : P s) : P t := by
  induction run with
  | refl => exact h
  | tail _ part ih => exact parts _ _ part ih

/-- A step leads to what the parts of the other commands keep and the end of a cell at this state gives; the queue of
waiting commands has no say in it. -/
theorem step_leads {P : State → Prop} {s t : State} (next : step s = .next t) (same : P s)
    (popped : ∀ rest, P { s with pending := rest }) (parts : ∀ s t, Event s t → P s → P t)
    (cell : ∀ rest j, P (State.cellEnds { s with pending := rest } j)) : P t := by
  rcases step_cases next with rfl | ⟨rest, run⟩ | ⟨levels, rest, -, rfl⟩
  · exact same
  · exact EventsIn.keep parts run (popped rest)
  · exact cell rest _

/-- What the parts of the other commands keep, and a cell's end keeps, every step keeps. -/
theorem step_keeps {P : State → Prop} (pending : ∀ s rest, P s → P { s with pending := rest })
    (parts : ∀ s t, Event s t → P s → P t) (cell : ∀ s j, P s → P (s.cellEnds j)) {s t : State}
    (next : step s = .next t) (h : P s) : P t :=
  step_leads next h (fun rest => pending s rest h) parts fun rest j => cell _ j (pending s rest h)

end Sys2Proof.Machine
end

section
set_option Elab.async false
/-! CELL_END said once: what the link makes of the cell (R101 to R107, R112, R113), and the parts that the units' rules
are made of (R58, R60, R62 to R92, R108). -/

namespace Sys2Proof.Machine

open Relation (ReflTransGen)

/-! ### The link's part -/

section Link

variable {s : State}

theorem State.cellEnds_driving (driving : s.link.transmitter ≠ .idle) (j : Judged) : s.cellEnds j = s := by
  simp [State.cellEnds, driving]

/-- The link has gone idle. -/
def State.linkIdle (s : State) : State := { s with link := { s.link with busy := false } }

theorem State.cellEnds_notInUse (idle : s.link.transmitter = .idle) (unused : s.link.receiver = .notInUse) (j : Judged) :
    s.cellEnds j = s.linkIdle := by
  simp [State.cellEnds, State.linkIdle, idle, unused]

/-- R101, R118: the receiver that waits for idle is taken into use, and a grid starts. -/
def State.receiverTaken (s : State) : State :=
  { s with
    link := { s.link with busy := false, receiver := .inUse }
    ladder := ⟨.running none, rankOf s.own s.link.lastSender, s.ladder.attempts⟩
    membership := { s.membership with
      silence := if s.membership.state = .listen then .running else s.membership.silence } }

theorem State.cellEnds_awaitingIdle (idle : s.link.transmitter = .idle) (waits : s.link.receiver = .awaitingIdle)
    (j : Judged) : s.cellEnds j = s.receiverTaken := by
  unfold State.cellEnds
  rw [if_neg (by simp [idle])]
  simp only [waits]
  unfold State.receiverTaken
  by_cases listen : s.membership.state = .listen
  · rw [if_pos (by simp [listen]), if_pos listen]; rfl
  · rw [if_neg (by simp [listen]), if_neg listen]; rfl

/-- R105, R107, R57, R118: the receiver's part, and the link gone idle before it. -/
theorem State.receiverPart_eq_afterLink (s : State) (j : Judged) :
    s.linkIdle.receiverPart j = s.afterLink j := by
  unfold State.receiverPart State.afterLink State.linkIdle
  by_cases listen : s.membership.state = .listen
  · simp only []
    rw [if_pos (by simp [listen]), if_pos listen]; rfl
  · simp only []
    rw [if_neg (by simp [listen]), if_neg listen]; rfl

theorem State.listens_iff :
    s.listens = true ↔ s.link.receiver = .inUse ∧ s.link.transmitter = .idle ∧ s.link.flight = none := by
  simp [State.listens, and_assoc]

theorem State.ends_iff {f : Flight} {r : Report} :
    s.ends f r = true ↔
      s.link.receiver = .inUse ∧ s.link.transmitter = .idle ∧ s.link.flight = some f ∧ f.report = r := by
  simp [State.ends, and_assoc]

theorem State.cellEnds_inUse (idle : s.link.transmitter = .idle) (inUse : s.link.receiver = .inUse) (j : Judged) :
    s.cellEnds j = (s.linkIdle.cellJudged j).settleAttempts := by
  unfold State.cellEnds
  rw [if_neg (by simp [idle])]
  simp only []
  split <;> simp_all [State.linkIdle]

theorem State.cellJudged_peer (flight : s.link.flight = none) (j : Judged) :
    s.cellJudged j = (s.receiverPart j).handOver j.cls none := by
  unfold State.cellJudged
  split <;> simp_all

theorem State.cellJudged_heard {f : Flight} (flight : s.link.flight = some f) {j : Judged} {c : Cell}
    (heard : (ownJudged (some f) j).cls = .heard c) :
    s.cellJudged j = State.handOver (State.ownCellLeaves
      { s.receiverPart (ownJudged (some f) j) with
        link := { (s.receiverPart (ownJudged (some f) j)).link with flight := none } } f.source) (.heard c) (some f) := by
  unfold State.cellJudged
  rw [flight]
  simp only [heard]

theorem State.cellJudged_damaged {f : Flight} (flight : s.link.flight = some f) {j : Judged}
    (damaged : (ownJudged (some f) j).cls = .damaged) :
    s.cellJudged j = State.ownCellAborted
      { s.receiverPart (ownJudged (some f) j) with
        link := { (s.receiverPart (ownJudged (some f) j)).link with flight := none } } f.source
      (f.report == .mismatched) := by
  unfold State.cellJudged
  rw [flight]
  simp only [damaged]

/-- R106: a cell that the station did not send goes to the units as the receiver judged it. -/
theorem State.cellEnds_listens (listens : s.listens = true) (j : Judged) :
    s.cellEnds j = ((s.afterLink j).handOver j.cls none).settleAttempts := by
  obtain ⟨inUse, idle, flight⟩ := State.listens_iff.1 listens
  rw [State.cellEnds_inUse idle inUse, State.cellJudged_peer (s := s.linkIdle) flight, s.receiverPart_eq_afterLink]

/-- R112: the own cell matched to its last bit is heard as it was sent. -/
theorem State.cellEnds_own {f : Flight} (ends : s.ends f .matched = true) {j : Judged} (whole : j.cls ≠ .damaged) :
    s.cellEnds j = ((s.afterOwn f).handOver (.heard f.cell) (some f)).settleAttempts := by
  obtain ⟨inUse, idle, flight, matched⟩ := State.ends_iff.1 ends
  have judged : ownJudged (some f) j = .heardGood f.cell := by simp [ownJudged, matched, whole]
  rw [State.cellEnds_inUse idle inUse, State.cellJudged_heard (s := s.linkIdle) (c := f.cell) flight (by rw [judged]; rfl),
    s.receiverPart_eq_afterLink, judged]
  congr 2
  unfold State.ownCellLeaves State.afterOwn
  cases f.source <;> rfl

/-- R106, R112, R113: whether the own cell ended by an abort, or damaged after its last bit. -/
def Flight.isLost (f : Flight) (j : Judged) : Bool := f.report != .matched || j.cls == .damaged

theorem Flight.isLost_iff {f : Flight} {j : Judged} : f.isLost j = true ↔ f.report ≠ .matched ∨ j.cls = .damaged := by
  simp [Flight.isLost]

theorem ownJudged_of_lost {f : Flight} {j : Judged} (lost : f.isLost j = true) :
    (ownJudged (some f) j).cls = .damaged := by
  rw [Flight.isLost_iff] at lost
  cases report : f.report <;> simp [ownJudged, report, Judged.damagedBy] at lost ⊢
  simp [lost]

/-- The link's part of a lost own cell: it is on the link no more. -/
def State.afterLost (s : State) (f : Flight) (j : Judged) : State :=
  let t := s.afterLink (ownJudged (some f) j)
  { t with link := { t.link with flight := none } }

theorem State.cellEnds_lost {f : Flight} (inUse : s.link.receiver = .inUse) (idle : s.link.transmitter = .idle)
    (flight : s.link.flight = some f) {j : Judged} (lost : f.isLost j = true) :
    s.cellEnds j =
      ((s.afterLost f j).ownCellAborted f.source (f.report == .mismatched)).settleAttempts := by
  rw [State.cellEnds_inUse idle inUse, State.cellJudged_damaged (s := s.linkIdle) flight (ownJudged_of_lost lost),
    s.receiverPart_eq_afterLink]
  rfl

/-- What a cell's end can be: nothing, the link idle at a receiver not in use, the receiver taken into use, another
station's cell, or the own cell heard or lost. -/
theorem State.cellEnds_cases (s : State) (j : Judged) :
    (s.cellEnds j = s) ∨
    (s.link.transmitter = .idle ∧ s.link.receiver = .notInUse ∧
      s.cellEnds j = s.linkIdle) ∨
    (s.link.transmitter = .idle ∧ s.link.receiver = .awaitingIdle ∧ s.cellEnds j = s.receiverTaken) ∨
    (s.listens = true ∧ s.cellEnds j = ((s.afterLink j).handOver j.cls none).settleAttempts) ∨
    (∃ f, s.ends f .matched = true ∧
      s.cellEnds j = ((s.afterOwn f).handOver (.heard f.cell) (some f)).settleAttempts) ∨
    ∃ f, s.link.receiver = .inUse ∧ s.link.transmitter = .idle ∧ s.link.flight = some f ∧ f.isLost j = true ∧
      s.cellEnds j = ((s.afterLost f j).ownCellAborted f.source (f.report == .mismatched)).settleAttempts := by
  by_cases idle : s.link.transmitter = .idle
  · right
    cases receiver : s.link.receiver with
    | notInUse => exact .inl ⟨idle, rfl, State.cellEnds_notInUse idle receiver j⟩
    | awaitingIdle => exact .inr (.inl ⟨idle, rfl, State.cellEnds_awaitingIdle idle receiver j⟩)
    | inUse =>
      right; right
      cases flight : s.link.flight with
      | none =>
        have listens := State.listens_iff.2 ⟨receiver, idle, flight⟩
        exact .inl ⟨listens, State.cellEnds_listens listens j⟩
      | some f =>
        right
        by_cases lost : f.isLost j = true
        · exact .inr ⟨f, rfl, idle, rfl, lost, State.cellEnds_lost receiver idle flight lost⟩
        · obtain ⟨matched, whole⟩ : f.report = .matched ∧ j.cls ≠ .damaged := by simpa [Flight.isLost] using lost
          have ends := State.ends_iff.2 ⟨receiver, idle, flight, matched⟩
          exact .inl ⟨f, ends, State.cellEnds_own ends whole⟩
  · exact .inl (State.cellEnds_driving idle j)

end Link

/-! ### The units' parts -/

/-- What a good header at a MEMBER or SUSPECT station leaves in the records before its kind's own rules. -/
inductive Recording (s : State) : State → Prop
  | live (i : Station) : Recording s (s.live i)
  | sequence (i : Station) (q : Byte) : Recording s (s.recordSequence i q)
  | count (f : Counters → Counters) : Recording s (s.count f)
  | ownPresent : Recording s (s.setRoster s.own { s.rosterAt s.own with present := true, age := 0 })
  | served : Recording s s.serveClaims
  | admits (i : Station) : Recording s (s.setRoster i { s.rosterAt i with present := true, age := 0, heard := true })

abbrev Recordings : State → State → Prop := ReflTransGen Recording

/-- What a cell's own kind makes of the station (R36 to R42, R87 to R92). -/
inductive KindPart (h : Header) (p : Option (List Byte)) (own : Option Flight) (s : State) : Kind → State → Prop
  | stays (k : Kind) : KindPart h p own s k s
  | behind (k : Kind) : KindPart h p own s k (s.countBehind k)
  | tile (current : h.frame = s.frame.number) (last : h.last = true) :
      KindPart h p own s .tile (s.completeTile ⟨h.sender, h.tileSlot⟩)
  | claim (current : h.frame = s.frame.number) (bytes : List Byte) (heard : p = some bytes) (sized : h.length.toNat = 10) :
      KindPart h p own s .claim (s.applyClaim h.sender (claimOf bytes) (own.map Flight.crop))
  | release (current : h.frame = s.frame.number) (bytes : List Byte) (heard : p = some bytes)
      (sized : h.length.toNat = 1) :
      KindPart h p own s .release (s.applyRelease h.sender (bytes.getD 0 0) own.isSome)
  | bye (current : h.frame = s.frame.number) : KindPart h p own s .bye (s.applyBye h.sender own.isSome)
  | close (current : h.frame = s.frame.number) : KindPart h p own s .close (s.closeFrame .close)
  | asked (member : s.isMember = true) (peer : own = none) : KindPart h p own s .query (s.answerQuery h.sender)
  | queryHeard (notMember : s.isMember = false) (sent : own.isSome = true) :
      KindPart h p own s .query (s.setQueryTimer true)
  | dump (bytes : List Byte) (heard : p = some bytes) : KindPart h p own s .dump (s.dumpCell h bytes own.isSome)

section Units

variable (s : State)

theorem ownHello_recordings : Recordings s s.ownHello := by
  unfold State.ownHello
  split
  · exact .refl
  · exact .tail (.single .ownPresent) .served

theorem peerHello_recordings (i : Station) (b : HelloBody) : Recordings s (s.peerHello i b) := by
  unfold State.peerHello
  split
  · split
    · exact .refl
    · exact .single (.admits i)
  · exact .single (.count _)

theorem helloPart_recordings (k : Kind) (cls : FrameClass) (h : Header) (p : Option (List Byte)) (own : Bool) :
    Recordings s (s.helloPart k cls h p own) := by
  unfold State.helloPart
  split
  · split
    · exact ownHello_recordings s
    · exact peerHello_recordings s _ _
  · exact .refl

theorem frameClass_current_iff {f h : Word} : frameClass f h = .current ↔ h = f := by
  unfold frameClass
  split <;> [simp_all; skip]
  split <;> simp_all

theorem usable_some_sized {k : Kind} {p : Option (List Byte)} {len n : Nat} {bytes : List Byte}
    (fixed : k.fixedLength = some n) (usable : usable k p len = some bytes) : len = n ∧ p = some bytes := by
  simp only [Machine.usable, fixed] at usable
  split at usable
  · next sized => exact ⟨sized, usable⟩
  · cases usable

theorem currentCell_part (k : Kind) (h : Header) (p : Option (List Byte)) (own : Option Flight)
    (current : h.frame = s.frame.number) :
    KindPart h p own s k (s.currentCell k h (usable k p h.length.toNat) own) := by
  unfold State.currentCell
  split
  · split
    · next last => exact .tile current last
    · exact .stays _
  · next bytes usable => exact .claim current bytes (usable_some_sized rfl usable).2 (usable_some_sized rfl usable).1
  · next bytes usable => exact .release current bytes (usable_some_sized rfl usable).2 (usable_some_sized rfl usable).1
  · exact .bye current
  · exact .close current
  · exact .stays _

theorem queryCell_part (h : Header) (p : Option (List Byte)) (own : Option Flight) :
    KindPart h p own s .query (s.queryCell h.sender own.isSome) := by
  unfold State.queryCell
  split
  · next member =>
    split
    · exact .stays _
    · next peer => exact .asked member (by simpa using peer)
  · next notMember =>
    split
    · next sent => exact .queryHeard (by simpa using notMember) sent
    · exact .stays _

theorem kindRules_part (k : Kind) (h : Header) (p : Option (List Byte)) (own : Option Flight) :
    KindPart h p own s k (s.kindRules k (frameClass s.frame.number h.frame) h p own) := by
  unfold State.kindRules
  split
  · next current => exact currentCell_part s k h p own (frameClass_current_iff.1 current)
  · exact .behind k
  · exact .stays k
  · split
    · exact queryCell_part s h p own
    · next usable => exact .dump _ usable
    · exact .stays _

/-- The entry into SUSPECT that a cell of another station can show a MEMBER (R79). -/
inductive Suspecting (own : Option Flight) (s : State) : State → Prop
  | none : Suspecting own s s
  | enters (peer : own = none) (member : s.isMember = true) (why : StateCause) :
      Suspecting own s (s.enterSuspect why)

/-- A cell of an unknown kind is recorded; one of a known kind is recorded, can make the station SUSPECT, and is then
taken by its kind's rules. -/
theorem planCell_cases (h : Header) (p : Option (List Byte)) (own : Option Flight) :
    (Kind.ofCode h.kind = none ∧ Recordings s (s.planCell h p own)) ∨
    ∃ k t u, Kind.ofCode h.kind = some k ∧ Recordings s t ∧ Suspecting own t u ∧
      KindPart h p own u k (s.planCell h p own) := by
  unfold State.planCell
  simp only []
  cases kind : Kind.ofCode h.kind with
  | none => exact .inl ⟨rfl, .single (.live h.sender)⟩
  | some k =>
    right
    simp only []
    generalize hello : (s.live h.sender).helloPart k (frameClass s.frame.number h.frame) h p own.isSome = t1
    have recorded : Recordings s t1 := hello ▸ .trans (.single (.live h.sender)) (helloPart_recordings _ _ _ _ _ _)
    have member : t1.isMember = s.isMember := by rw [← hello]; simp [State.isMember]
    have number : t1.frame = s.frame := by rw [← hello]; simp
    generalize signs : (if (s.isMember && own.isNone) = true then _ else Signs.none) = g
    have isMember : ∀ why, g.first = some why → own = none ∧ s.isMember = true := by
      intro why first
      by_cases judged : (s.isMember && own.isNone) = true
      · simpa [and_comm] using judged
      · rw [if_neg judged] at signs
        rw [← signs] at first
        simp [Signs.none, Signs.first] at first
    generalize sequenced : (if (k == .tile) = true then t1.count (countSigns g)
      else (t1.count (countSigns g)).recordSequence h.sender h.sequence) = t2
    have recorded2 : Recordings s t2 := by
      rw [← sequenced]
      have counted := recorded.tail (.count (countSigns g))
      split
      · exact counted
      · exact counted.tail (.sequence _ _)
    have member2 : t2.isMember = s.isMember := by
      rw [← sequenced, ← member]; split <;> simp [State.isMember]
    have number2 : t2.frame = s.frame := by
      rw [← sequenced, ← number]; split <;> simp
    cases first : g.first with
    | none =>
      refine ⟨k, t2, t2, rfl, recorded2, .none, ?_⟩
      simp only [← number2]
      exact kindRules_part t2 k h p own
    | some why =>
      obtain ⟨peer, isIn⟩ := isMember why first
      refine ⟨k, t2, t2.enterSuspect why, rfl, recorded2, .enters peer (member2.trans isIn) why, ?_⟩
      rw [show s.frame.number = (t2.enterSuspect why).frame.number by simp [number2]]
      exact kindRules_part _ k h p own

/-- A heard DUMP in its parts: the own one counts as sent, a MEMBER's requesters are served, and one that names the
station is installed. -/
theorem dumpCell_parts (h : Header) (p : List Byte) (own : Bool) :
    ∃ t, (t = s ∨ ∃ f, t = s.count f) ∧
      (s.dumpCell h p own = t ∨ ∃ d u, dumpOf p = some d ∧ (u = t ∨ t.isMember = true ∧ u = t.requestersServed d) ∧
        (s.dumpCell h p own = u ∨ s.dumpCell h p own = u.install h d)) := by
  unfold State.dumpCell
  simp only []
  generalize counted : (if own = true then s.count _ else s) = t
  refine ⟨t, ?_, ?_⟩
  · rw [← counted]
    split
    · exact .inr ⟨_, rfl⟩
    · exact .inl rfl
  · cases dump : dumpOf p with
    | none => exact .inl rfl
    | some d =>
      simp only []
      generalize servedIs : (if t.isMember = true then t.requestersServed d else t) = u
      refine .inr ⟨d, u, rfl, ?_, ?_⟩
      · rw [← servedIs]
        split
        · next member => exact .inr ⟨member, rfl⟩
        · exact .inl rfl
      · split
        · exact .inr rfl
        · exact .inl rfl

/-- R58: the first good header in LISTEN. -/
def State.hears (s : State) (f : Word) : State :=
  let t := ((s.setSilence .stopped).recordFrame f).enqueue .query
  (({ t with recovery := { t.recovery with attempts := 1 } }).setState .syncing).deposit (.state .syncing .heard)

/-- What the units make of a good header, by station state. -/
inductive UnitPart (h : Header) (p : Option (List Byte)) (own : Option Flight) (s : State) : State → Prop
  | stays : UnitPart h p own s s
  | mutes (cause : MuteCause) (why : StateCause) (active : s.membership.state ≠ .strap) (cause_ne : cause ≠ .strap)
      (unmuted : s.isMuted = false) : UnitPart h p own s (s.enterMuted cause why)
  | hears (listen : s.membership.state = .listen) : UnitPart h p own s (s.hears h.frame)
  | records (syncing : s.membership.state = .syncing) : UnitPart h p own s (s.recordFrame h.frame)
  | recordsMuted (syncing : s.membership.state = .syncing) :
      UnitPart h p own s ((s.recordFrame h.frame).enterMuted .params .params)
  | queryHeard (syncing : s.membership.state = .syncing) (sent : own.isSome = true)
      (query : Kind.ofCode h.kind = some .query) : UnitPart h p own s ((s.recordFrame h.frame).setQueryTimer true)
  | installs (syncing : s.membership.state = .syncing) (peer : own = none) (dump : Kind.ofCode h.kind = some .dump)
      (bytes : List Byte) (heard : p = some bytes) (d : DumpBody) (usable : dumpOf bytes = some d) : UnitPart h p own s
      ((s.recordFrame h.frame).install h d)
  | plan (inPlan : s.membership.state.inPlan = true) : UnitPart h p own s (s.planCell h p own)

theorem listenCell_part (h : Header) (p : Option (List Byte)) (own : Option Flight)
    (listen : s.membership.state = .listen) : UnitPart h p own s (s.listenCell h p) := by
  unfold State.listenCell
  split
  · exact .mutes _ _ (by simp [listen]) (by simp) (by simp [State.isMuted, listen])
  · exact .hears listen

theorem syncingCell_part (h : Header) (p : Option (List Byte)) (own : Option Flight)
    (syncing : s.membership.state = .syncing) : UnitPart h p own s (s.syncingCell h p own.isSome) := by
  unfold State.syncingCell
  simp only []
  split
  · exact .recordsMuted syncing
  split
  · next sent =>
    split
    · next query => exact .queryHeard syncing sent (by simpa using query)
    · exact .records syncing
  · next peer =>
    split
    · next d dump usable =>
      split
      · obtain ⟨bytes, heard, usable⟩ := Option.bind_eq_some_iff.1 usable
        exact .installs syncing (by simpa using peer) dump bytes heard d usable
      · exact .records syncing
    · exact .records syncing

theorem units_part (h : Header) (p : Option (List Byte)) (own : Option Flight) :
    UnitPart h p own s (s.units h p own) := by
  have muted (out : s.membership.state ≠ .strap) (unmuted : s.isMuted = false) :
      UnitPart h p own s (s.enterMuted .duplicate .duplicate) := .mutes _ _ out (by simp) unmuted
  unfold State.units
  split
  · exact .stays
  · exact .stays
  · next left =>
    split
    · exact muted (by simp [left]) (by simp [State.isMuted, left])
    · exact .stays
  · next listen =>
    split
    · exact muted (by simp [listen]) (by simp [State.isMuted, listen])
    · exact listenCell_part s h p own listen
  · next syncing =>
    split
    · exact muted (by simp [syncing]) (by simp [State.isMuted, syncing])
    · exact syncingCell_part s h p own syncing
  · next member =>
    split
    · exact muted (by simp [member]) (by simp [State.isMuted, member])
    · exact .plan (by simp [member, StationState.inPlan])
  · next suspect =>
    split
    · exact muted (by simp [suspect]) (by simp [State.isMuted, suspect])
    · exact .plan (by simp [suspect, StationState.inPlan])

end Units

/-! ### What every part keeps, a cell's end keeps -/

/-- The parts of the units' rules lead from `P` to `R` (`P` itself where none is given), for the cell with this header,
this payload when it is heard, and this flight when it is the own one: what is recorded before the kind's own rules
keeps `P`. -/
structure UnitRules (h : Header) (p : Option (List Byte)) (own : Option Flight) (P : State → Prop)
    (R : State → Prop := P) : Prop where
  leads : ∀ s, P s → R s := by exact fun _ h => h
  count : ∀ s f, P s → P (State.count s f)
  mutes : ∀ s cause why, s.membership.state ≠ .strap ∧ s.isMuted = false → cause ≠ .strap → P s →
    R (State.enterMuted s cause why)
  hears : ∀ s f, s.membership.state = .listen → P s → R (State.hears s f)
  records : ∀ s f, s.membership.state = .syncing → P s → P (State.recordFrame s f)
  queryTimer : ∀ s, own.isSome = true ∧ Kind.ofCode h.kind = some .query →
    s.membership.state = .syncing ∨ s.membership.state = .suspect → P s → R (State.setQueryTimer s true)
  installs : ∀ s bytes d, Kind.ofCode h.kind = some .dump ∧ p = some bytes → dumpOf bytes = some d →
    s.membership.state = .syncing ∨ s.membership.state.inPlan = true → P s → R (State.install s h d)
  recording : ∀ s t, Recording s t → s.membership.state.inPlan = true → P s → P t
  suspects : ∀ s why, own = none ∧ s.membership.state = .member → P s → P (State.enterSuspect s why)
  tile : ∀ s, Kind.ofCode h.kind = some .tile ∧ h.last = true → s.membership.state.inPlan = true → P s →
    R (State.completeTile s ⟨h.sender, h.tileSlot⟩)
  claim : ∀ s bytes, Kind.ofCode h.kind = some .claim ∧ p = some bytes → s.membership.state.inPlan = true → P s →
    R (State.applyClaim s h.sender (claimOf bytes) (own.map Flight.crop))
  release : ∀ s bytes, Kind.ofCode h.kind = some .release ∧ p = some bytes → s.membership.state.inPlan = true → P s →
    R (State.applyRelease s h.sender (bytes.getD 0 0) own.isSome)
  bye : ∀ s, Kind.ofCode h.kind = some .bye → s.membership.state.inPlan = true → P s →
    R (State.applyBye s h.sender own.isSome)
  close : ∀ s, Kind.ofCode h.kind = some .close → s.membership.state.inPlan = true → P s → R (State.closeFrame s .close)
  asked : ∀ s, own = none → s.membership.state = .member → P s → R (State.answerQuery s h.sender)
  served : ∀ s d, Kind.ofCode h.kind = some .dump → s.membership.state = .member → P s → P (State.requestersServed s d)

section Rules

variable {hd : Header} {p : Option (List Byte)} {own : Option Flight} {P R : State → Prop} {s t : State}

theorem isMember_iff : s.isMember = true ↔ s.membership.state = .member := beq_iff_eq

theorem inPlan_iff {st : StationState} : st.inPlan = true ↔ st = .member ∨ st = .suspect := by
  cases st <;> simp [StationState.inPlan]

theorem Recording.same_state (part : Recording s t) : t.membership.state = s.membership.state := by
  cases part <;> simp

theorem Recordings.same_state (run : Recordings s t) : t.membership.state = s.membership.state := by
  induction run with
  | refl => rfl
  | tail _ part ih => exact part.same_state.trans ih

theorem Suspecting.inPlan (part : Suspecting own s t) (inPlan : s.membership.state.inPlan = true) :
    t.membership.state.inPlan = true := by
  cases part with
  | none => exact inPlan
  | enters => simp [State.enterSuspect, State.setState, StationState.inPlan]

namespace UnitRules

variable (rules : UnitRules hd p own P R)
include rules

theorem recordings (run : Recordings s t) (inPlan : s.membership.state.inPlan = true) (h : P s) : P t := by
  induction run with
  | refl => exact h
  | tail run part ih => exact rules.recording _ _ part (Recordings.same_state run ▸ inPlan) ih

theorem suspecting (part : Suspecting own s t) (h : P s) : P t := by
  cases part with
  | none => exact h
  | enters peer member why => exact rules.suspects s why ⟨peer, isMember_iff.1 member⟩ h

theorem dumpCell (dump : Kind.ofCode hd.kind = some .dump) {bytes : List Byte} (heard : p = some bytes) (b : Bool)
    (inPlan : s.membership.state.inPlan = true) (h : P s) : R (s.dumpCell hd bytes b) := by
  have counted : ∀ f, P (s.count f) := fun f => rules.count s f h
  obtain ⟨t, before, inPlanT, is⟩ : ∃ t, P t ∧ t.membership.state.inPlan = true ∧
      (s.dumpCell hd bytes b = t ∨ ∃ d, dumpOf bytes = some d ∧ s.dumpCell hd bytes b = t.install hd d) := by
    rcases dumpCell_parts s hd bytes b with ⟨t, sent, is⟩
    have start : P t ∧ t.membership.state.inPlan = true := by
      rcases sent with rfl | ⟨f, rfl⟩
      · exact ⟨h, inPlan⟩
      · exact ⟨counted f, inPlan⟩
    rcases is with is | ⟨d, u, usable, served, is⟩
    · exact ⟨t, start.1, start.2, .inl is⟩
    · have middle : P u ∧ u.membership.state.inPlan = true := by
        rcases served with rfl | ⟨member, rfl⟩
        · exact start
        · exact ⟨rules.served _ d dump (isMember_iff.1 member) start.1, by simpa using start.2⟩
      rcases is with is | is
      · exact ⟨u, middle.1, middle.2, .inl is⟩
      · exact ⟨u, middle.1, middle.2, .inr ⟨d, usable, is⟩⟩
  rcases is with is | ⟨d, usable, is⟩ <;> rw [is]
  · exact rules.leads _ before
  · exact rules.installs _ bytes d ⟨dump, heard⟩ usable (.inr inPlanT) before

theorem kindPart {k : Kind} (part : KindPart hd p own s k t) (kind : Kind.ofCode hd.kind = some k)
    (inPlan : s.membership.state.inPlan = true) (h : P s) : R t := by
  cases part with
  | stays => exact rules.leads _ h
  | behind => exact rules.leads _ (rules.count s _ h)
  | tile _ last => exact rules.tile s ⟨kind, last⟩ inPlan h
  | claim _ bytes heard => exact rules.claim s bytes ⟨kind, heard⟩ inPlan h
  | release _ bytes heard => exact rules.release s bytes ⟨kind, heard⟩ inPlan h
  | bye => exact rules.bye s kind inPlan h
  | close => exact rules.close s kind inPlan h
  | asked member peer => exact rules.asked s peer (isMember_iff.1 member) h
  | queryHeard notMember sent =>
    refine rules.queryTimer s ⟨sent, kind⟩ (.inr ?_) h
    rcases inPlan_iff.1 inPlan with member | suspect
    · simp [State.isMember, member] at notMember
    · exact suspect
  | dump bytes heard => exact rules.dumpCell kind heard _ inPlan h

theorem planCell (inPlan : s.membership.state.inPlan = true) (h : P s) : R (s.planCell hd p own) := by
  rcases planCell_cases s hd p own with ⟨-, run⟩ | ⟨k, t, u, kind, run, suspecting, part⟩
  · exact rules.leads _ (rules.recordings run inPlan h)
  · have inPlanT : t.membership.state.inPlan = true := run.same_state ▸ inPlan
    exact rules.kindPart part kind (suspecting.inPlan inPlanT)
      (rules.suspecting suspecting (rules.recordings run inPlan h))

theorem units (h : P s) : R (s.units hd p own) := by
  generalize result : s.units hd p own = t
  have part := result ▸ units_part s hd p own
  cases part with
  | stays => exact rules.leads _ h
  | mutes cause why active ne unmuted => exact rules.mutes s cause why ⟨active, unmuted⟩ ne h
  | hears listen => exact rules.hears s _ listen h
  | records syncing => exact rules.leads _ (rules.records s _ syncing h)
  | recordsMuted syncing =>
    exact rules.mutes _ _ _ ⟨by simp [State.recordFrame, syncing], by simp [State.recordFrame, State.isMuted, syncing]⟩
      (by simp)
      (rules.records s _ syncing h)
  | queryHeard syncing sent query => exact rules.queryTimer _ ⟨sent, query⟩ (.inl syncing) (rules.records s _ syncing h)
  | installs syncing _ dump bytes heard d usable =>
    exact rules.installs _ bytes d ⟨dump, heard⟩ usable (.inl syncing) (rules.records s _ syncing h)
  | plan inPlan => exact rules.planCell inPlan h

end UnitRules

/-- The header and the payload that a judged cell hands to the units (R106). -/
def CellClass.good (c : CellClass) : Option (Header × Option (List Byte)) :=
  match c with
  | .heard cell => some (cell.header, some cell.payload)
  | .headerHeard h => some (h, none)
  | .damaged => none

theorem UnitRules.handOver_good (c : CellClass) (rules : ∀ hd p, c.good = some (hd, p) → UnitRules hd p own P R)
    (leads : P s → R s) (h : P s) : R (s.handOver c own) := by
  cases c with
  | heard cell => exact (rules _ _ rfl).units h
  | headerHeard hd => exact (rules _ _ rfl).units h
  | damaged => exact leads h

theorem UnitRules.handOver (rules : ∀ {hd : Header} {p : Option (List Byte)}, UnitRules hd p own P) (c : CellClass)
    (h : P s) : P (s.handOver c own) := UnitRules.handOver_good c (fun _ _ _ => rules) id h

end Rules

/-- The parts of a cell's end lead from `s` to `P`, with `Q` holding while the units have the cell: the link is idle
then and carries no own cell. -/
structure CellRules (s : State) (P Q : State → Prop) : Prop where
  stays : P s
  linkIdle : s.link.receiver = .notInUse → P s.linkIdle
  taken : s.link.receiver = .awaitingIdle → P s.receiverTaken
  heard : ∀ j, s.listens = true → Q (s.afterLink j)
  peers : ∀ c t, Q t → Q (t.handOver c none)
  own : ∀ f, s.ends f .matched = true → Q ((s.afterOwn f).handOver (.heard f.cell) (some f))
  lost : ∀ f j, s.link.flight = some f → s.link.transmitter = .idle →
    Q ((s.afterLost f j).ownCellAborted f.source (f.report == .mismatched))
  settles : ∀ t, Q t → P t.settleAttempts

theorem CellRules.cellEnds {P Q : State → Prop} {s : State} (rules : CellRules s P Q) (j : Judged) : P (s.cellEnds j) := by
  rcases s.cellEnds_cases j with same | ⟨-, unused, is⟩ | ⟨-, waits, is⟩ | ⟨listens, is⟩ | ⟨f, ends, is⟩ |
    ⟨f, -, idle, flight, -, is⟩
  · rw [same]; exact rules.stays
  · rw [is]; exact rules.linkIdle unused
  · rw [is]; exact rules.taken waits
  · rw [is]; exact rules.settles _ (rules.peers _ _ (rules.heard j listens))
  · rw [is]; exact rules.settles _ (rules.own f ends)
  · rw [is]; exact rules.settles _ (rules.lost f j flight idle)

end Sys2Proof.Machine
end

section
set_option Elab.async false
/-! The timers and the silent states (R33, R57, R78, R132, R160, R167, R168). -/

namespace Sys2Proof.Machine

/-! ### What the compound operations make of the frame unit, the recovery unit and the station state -/

section Frames

variable (s : State)

/-- R163: a cell joins the tail unless its place is taken. -/
theorem State.enqueue_queue (k : QueueKind) :
    (s.enqueue k).queue = if s.queues k then s.queue else s.queue ++ [⟨k, none, false⟩] := by
  unfold State.enqueue
  split <;> rfl

@[simp] theorem State.enterMuted_frame (c : MuteCause) (w : StateCause) :
    (s.enterMuted c w).frame = { s.frame with timerRunning := false } := by
  simp [State.enterMuted]

@[simp] theorem State.enterMuted_recovery (c : MuteCause) (w : StateCause) :
    (s.enterMuted c w).recovery = ⟨false, s.recovery.attempts, []⟩ := by
  simp [State.enterMuted]

@[simp] theorem State.enterMuted_membership (c : MuteCause) (w : StateCause) :
    (s.enterMuted c w).membership = { s.membership with state := .muted c, silence := .stopped } := by
  simp [State.enterMuted]

@[simp] theorem State.enterMuted_capture (c : MuteCause) (w : StateCause) :
    (s.enterMuted c w).capture = { s.capture with contexts := tab4 fun _ => .idle } := by
  simp [State.enterMuted]

@[simp] theorem State.enterMuted_link (c : MuteCause) (w : StateCause) :
    (s.enterMuted c w).link = { s.link with transmitter := .idle, flight := none } := by
  simp [State.enterMuted]

@[simp] theorem State.enterLeft_frame : s.enterLeft.frame = ⟨0, [], false, 0⟩ := by
  simp [State.enterLeft, State.clearPlan]

@[simp] theorem State.enterLeft_recovery : s.enterLeft.recovery = ⟨false, 0, []⟩ := by
  simp [State.enterLeft, State.clearPlan]

@[simp] theorem State.enterLeft_membership :
    s.enterLeft.membership = ⟨.left, tab16 fun _ => RosterEntry.reset, s.membership.sequence, .stopped⟩ := by
  simp [State.enterLeft, State.clearPlan, State.setState]

@[simp] theorem State.enterLeft_capture :
    s.enterLeft.capture = { s.capture with contexts := tab4 fun _ => .idle } := by
  simp [State.enterLeft, State.clearPlan]

@[simp] theorem State.enterSuspect_state (w : StateCause) : (s.enterSuspect w).membership.state = .suspect := by
  simp [State.enterSuspect, State.setState]

@[simp] theorem State.hears_frames (f : Word) :
    (s.hears f).claims = s.claims ∧ (s.hears f).frame = { s.frame with lastHeard := f } ∧
    (s.hears f).membership = { s.membership with state := .syncing, silence := .stopped } ∧
    (s.hears f).recovery = { s.recovery with attempts := 1 } ∧ (s.hears f).link = s.link ∧
    (s.hears f).ladder = s.ladder ∧ (s.hears f).capture = s.capture ∧ (s.hears f).store = s.store ∧
    (s.hears f).strap = s.strap ∧ (s.hears f).queue = (s.enqueue .query).queue := by
  simp [State.hears, State.recordFrame, State.setSilence, State.setState, State.enqueue_queue, State.queues]

@[simp] theorem State.recordFrame_frames (f : Word) :
    (s.recordFrame f).claims = s.claims ∧ (s.recordFrame f).frame = { s.frame with lastHeard := f } ∧
    (s.recordFrame f).membership = s.membership ∧ (s.recordFrame f).recovery = s.recovery ∧
    (s.recordFrame f).link = s.link ∧ (s.recordFrame f).ladder = s.ladder ∧ (s.recordFrame f).capture = s.capture ∧
    (s.recordFrame f).store = s.store ∧ (s.recordFrame f).strap = s.strap ∧ (s.recordFrame f).queue = s.queue ∧
    (s.recordFrame f).port = s.port := by
  simp [State.recordFrame]

@[simp] theorem State.install_frameUnit (h : Header) (d : DumpBody) :
    (s.install h d).frame = ⟨h.frame, d.outstandingKeys, true, s.frame.lastHeard⟩ := by
  unfold State.install
  cases s.isMember <;> simp [State.forSlots_eq, State.installPlan]

@[simp] theorem State.install_state (h : Header) (d : DumpBody) : (s.install h d).membership.state = .member := by
  unfold State.install
  cases s.isMember <;> simp [State.setState]

@[simp] theorem State.install_recovery (h : Header) (d : DumpBody) :
    (s.install h d).recovery = ⟨false, 0, s.recovery.dumpPending⟩ := by
  unfold State.install
  cases s.isMember <;> simp [State.forSlots_eq, State.installPlan]

/-- R44: the number advances, the set is formed anew, and the timer runs in MEMBER only. -/
@[simp] theorem State.closeFrame_frameUnit (c : CloseCause) :
    (s.closeFrame c).frame =
      ⟨s.frame.number + 1, heldKeys s.openedTable, s.isMember, s.frame.lastHeard⟩ := by
  cases c <;> simp [State.closeFrame, State.forSlots_eq, State.openFrame, State.isMember]

/-- R40: a completed tile is taken out of the set, or closes the frame. -/
theorem State.completeTile_cases (k : TileKey) :
    (s.isOutstanding k = false ∧ s.completeTile k = s) ∨
    (s.isOutstanding k = true ∧
      let t : State := { s with frame := { s.frame with outstanding := s.frame.outstanding.filter fun x => !(x == k) } }
      (t.frame.outstanding ≠ [] ∧ s.completeTile k = t) ∨
      (t.frame.outstanding = [] ∧ s.completeTile k = t.closeFrame .last)) := by
  unfold State.completeTile
  split
  · next outstanding =>
    refine .inr ⟨outstanding, ?_⟩
    simp only [List.isEmpty_iff]
    split
    · next closes => exact .inr ⟨closes, rfl⟩
    · next stays => exact .inl ⟨stays, rfl⟩
  · next absent => exact .inl ⟨by simpa using absent, rfl⟩

/-! ### A close in its parts (R43, R44) -/

/-- R43, R146: a close by CLOSE cuts the unfinished tiles of the closed frame. -/
def State.cutFrame (s : State) (f : Word) (c : CloseCause) : State :=
  match c with
  | .close => s.forSlots (cutSlot f)
  | .last => s
  | .bye => s

/-- The plan's part of a close and the open behind it. -/
def State.openPlan (s : State) : State := s.openTable.openFrame.scheduleHello

theorem State.closeFrame_eq (c : CloseCause) :
    s.closeFrame c = (s.openPlan.cutFrame s.frame.number c).armContexts.purge fun e =>
      (s.claims.table.filter s.leavesAtOpen).any fun r =>
        r.key == s.ownKey e.slot := by
  cases c <;> rfl

@[simp] theorem State.cutFrame_frames (f : Word) (c : CloseCause) :
    (s.cutFrame f c).claims = s.claims ∧ (s.cutFrame f c).frame = s.frame ∧
    (s.cutFrame f c).membership = s.membership ∧ (s.cutFrame f c).recovery = s.recovery ∧
    (s.cutFrame f c).link = s.link ∧ (s.cutFrame f c).ladder = s.ladder ∧ (s.cutFrame f c).queue = s.queue ∧
    (s.cutFrame f c).strap = s.strap := by
  cases c <;> simp [State.cutFrame, State.forSlots_eq]

@[simp] theorem State.openPlan_frames :
    s.openPlan.capture = s.capture ∧ s.openPlan.store = s.store ∧ s.openPlan.strap = s.strap ∧
    s.openPlan.link = s.link ∧ s.openPlan.ladder = s.ladder ∧ s.openPlan.recovery = s.recovery ∧
    s.openPlan.membership.state = s.membership.state ∧ s.openPlan.membership.roster = s.agedRoster ∧
    s.openPlan.membership.silence = s.membership.silence ∧ s.openPlan.claims.table = s.openedTable ∧
    s.openPlan.frame = ⟨s.frame.number + 1, heldKeys s.openedTable, s.isMember, s.frame.lastHeard⟩ := by
  simp [State.openPlan, State.openFrame, State.isMember]

/-! ### The entry into SUSPECT in its parts (R84) -/

/-- R84, R70: the plan's cells and a DUMP leave the queue, each given number is returned, a waiting BYE's too, and no
requester waits. -/
def State.planWithdrawn (s : State) : State :=
  let t := s.withdraw fun k => k.isPlan || k == .dump
  { t with
    queue := t.queue.map fun c => if c.kind == .bye then { c with given := none } else c
    membership := { t.membership with
      sequence := t.membership.sequence - BitVec.ofNat 8 (t.queue.countP fun c => c.kind == .bye && c.given.isSome) }
    recovery := { t.recovery with dumpPending := [] } }

theorem State.enterSuspect_eq (why : StateCause) :
    s.enterSuspect why =
      (State.setState { (s.planWithdrawn.forSlots State.suspectSlot).enqueue .query with
        recovery := { ((s.planWithdrawn.forSlots State.suspectSlot).enqueue .query).recovery with attempts := 1 } }
        .suspect).deposit (.state .suspect why) := rfl

/-! ### What the parts of the other commands leave as they are -/

@[simp] theorem State.endTile_frames (n : SlotNo) (f : Word) (row : Nat) (sort : StoreSort) (missing : Nat) :
    (s.endTile n f row sort missing).claims = s.claims ∧ (s.endTile n f row sort missing).frame = s.frame ∧
    (s.endTile n f row sort missing).membership = s.membership ∧
    (s.endTile n f row sort missing).recovery = s.recovery ∧ (s.endTile n f row sort missing).link = s.link ∧
    (s.endTile n f row sort missing).ladder = s.ladder ∧ (s.endTile n f row sort missing).queue = s.queue ∧
    (s.endTile n f row sort missing).port.notices = s.port.notices ∧
    (s.endTile n f row sort missing).capture.rowCounter = s.capture.rowCounter := by
  simp [State.endTile]

@[simp] theorem endEarly_frames (n : SlotNo) :
    (endEarly s n).claims = s.claims ∧ (endEarly s n).frame = s.frame ∧ (endEarly s n).membership = s.membership ∧
    (endEarly s n).recovery = s.recovery ∧ (endEarly s n).link = s.link ∧ (endEarly s n).ladder = s.ladder ∧
    (endEarly s n).queue = s.queue ∧ (endEarly s n).port.notices = s.port.notices ∧
    (endEarly s n).capture.rowCounter = s.capture.rowCounter := by
  unfold endEarly
  split <;> simp

@[simp] theorem beginCapture_frames (n : SlotNo) :
    (beginCapture s n).claims = s.claims ∧ (beginCapture s n).frame = s.frame ∧
    (beginCapture s n).membership = s.membership ∧ (beginCapture s n).recovery = s.recovery ∧
    (beginCapture s n).link = s.link ∧ (beginCapture s n).ladder = s.ladder ∧ (beginCapture s n).queue = s.queue ∧
    (beginCapture s n).store = s.store ∧ (beginCapture s n).port = s.port ∧
    (beginCapture s n).capture.rowCounter = s.capture.rowCounter := by
  unfold beginCapture
  split <;> simp

@[simp] theorem State.handleRow_frames (n : SlotNo) (f : Word) (next missing rows : Nat) (row : Option (List Byte)) :
    (s.handleRow n f next missing rows row).claims = s.claims ∧
    (s.handleRow n f next missing rows row).frame = s.frame ∧
    (s.handleRow n f next missing rows row).membership = s.membership ∧
    (s.handleRow n f next missing rows row).recovery = s.recovery ∧
    (s.handleRow n f next missing rows row).link = s.link ∧
    (s.handleRow n f next missing rows row).ladder = s.ladder ∧
    (s.handleRow n f next missing rows row).queue = s.queue ∧
    (s.handleRow n f next missing rows row).port.notices = s.port.notices ∧
    (s.handleRow n f next missing rows row).capture.rowCounter = s.capture.rowCounter := by
  unfold State.handleRow State.dropLine
  simp only []
  repeat' (first | split | simp)

@[simp] theorem takeLine_frames (row : Nat) (pixels : List Pixel) (n : SlotNo) :
    (takeLine row pixels s n).claims = s.claims ∧ (takeLine row pixels s n).frame = s.frame ∧
    (takeLine row pixels s n).membership = s.membership ∧ (takeLine row pixels s n).recovery = s.recovery ∧
    (takeLine row pixels s n).link = s.link ∧ (takeLine row pixels s n).ladder = s.ladder ∧
    (takeLine row pixels s n).queue = s.queue ∧ (takeLine row pixels s n).port.notices = s.port.notices ∧
    (takeLine row pixels s n).capture.rowCounter = s.capture.rowCounter := by
  unfold takeLine
  repeat' (first | split | simp)

@[simp] theorem State.takeIntoUse_frames :
    s.takeIntoUse.claims = s.claims ∧ s.takeIntoUse.frame = s.frame ∧ s.takeIntoUse.membership = s.membership ∧
    s.takeIntoUse.recovery = s.recovery ∧ s.takeIntoUse.capture = s.capture ∧ s.takeIntoUse.store = s.store ∧
    s.takeIntoUse.queue = s.queue ∧ s.takeIntoUse.port = s.port ∧ s.takeIntoUse.link.busy = s.link.busy ∧
    s.takeIntoUse.link.flight = s.link.flight ∧ s.takeIntoUse.link.transmitter = s.link.transmitter ∧
    s.takeIntoUse.link.lastSender = s.link.lastSender ∧ s.takeIntoUse.ladder.attempts = s.ladder.attempts ∧
    s.takeIntoUse.free = s.free ∧ s.takeIntoUse.pending = s.pending ∧ s.takeIntoUse.resetLine = s.resetLine ∧
    s.takeIntoUse.strap = s.strap := by
  unfold State.takeIntoUse
  split <;> simp

@[simp] theorem loadSlot_frames (n : SlotNo) :
    (loadSlot s n).claims.table = s.claims.table ∧ (loadSlot s n).claims.removalMark = s.claims.removalMark ∧
    (loadSlot s n).frame = s.frame ∧ (loadSlot s n).membership = s.membership ∧
    (loadSlot s n).recovery = s.recovery ∧ (loadSlot s n).link = s.link ∧ (loadSlot s n).ladder = s.ladder ∧
    (loadSlot s n).capture = s.capture ∧ (loadSlot s n).store = s.store ∧ (loadSlot s n).queue = s.queue ∧
    (loadSlot s n).free = s.free ∧ (loadSlot s n).pending = s.pending ∧ (loadSlot s n).resetLine = s.resetLine ∧
    (loadSlot s n).strap = s.strap := by
  simp only [loadSlot]
  split <;> simp

@[simp] theorem State.enterListen_frames (words : List Word) :
    (s.enterListen words).claims.table = s.claims.table ∧
    (s.enterListen words).claims.removalMark = s.claims.removalMark ∧ (s.enterListen words).frame = s.frame ∧
    (s.enterListen words).recovery = s.recovery ∧ (s.enterListen words).capture = s.capture ∧
    (s.enterListen words).store = s.store ∧ (s.enterListen words).queue = s.queue ∧
    (s.enterListen words).membership =
      { s.membership with state := .listen, silence := if s.link.busy then .held else .running } ∧
    (s.enterListen words).link.busy = s.link.busy ∧ (s.enterListen words).link.flight = s.link.flight ∧
    (s.enterListen words).link.transmitter = s.link.transmitter ∧
    (s.enterListen words).link.lastSender = s.link.lastSender ∧
    (s.enterListen words).ladder.attempts = s.ladder.attempts ∧ (s.enterListen words).free = s.free ∧
    (s.enterListen words).pending = s.pending ∧ (s.enterListen words).resetLine = s.resetLine ∧
    (s.enterListen words).strap = { s.strap with words := words } := by
  simp [State.enterListen, State.forSlots_eq, State.startSilence, State.setSilence, State.setState]

/-- R178, R179: the first failed attempt stays in STRAP, the second one leads to MUTED(STRAP). -/
theorem State.strapFailed_cases (d : StrapDetail) :
    let t : State := { s with strap := { s.strap with failed := s.strap.failed + 1, detail := d } }
    (s.strap.failed = 0 ∧ s.strapFailed d = t) ∨
    (1 ≤ s.strap.failed ∧ s.strapFailed d = (t.enterMuted .strap .strap).takeIntoUse) := by
  unfold State.strapFailed
  simp only []
  split
  · exact .inr ⟨by omega, rfl⟩
  · exact .inl ⟨by omega, rfl⟩

@[simp] theorem State.found_frames :
    s.found.frame = { s.frame with timerRunning := true } ∧
    s.found.membership = { s.membership with state := .member, silence := .stopped } ∧
    s.found.recovery = s.recovery ∧ s.found.link = s.link ∧ s.found.ladder = s.ladder ∧
    s.found.capture = s.capture ∧ s.found.store = s.store ∧ s.found.claims.table = s.claims.table ∧
    s.found.claims.removalMark = s.claims.removalMark := by
  simp [State.found]

@[simp] theorem State.selfTrust_frames :
    s.selfTrust.frame = { s.frame with timerRunning := true } ∧
    s.selfTrust.membership = { s.membership with state := .member } ∧
    s.selfTrust.recovery = ⟨false, 0, s.recovery.dumpPending⟩ := by
  simp [State.selfTrust]

@[simp] theorem State.syncingFallback_frames :
    s.syncingFallback.frame = ⟨s.frame.lastHeard, [], true, s.frame.lastHeard⟩ ∧
    s.syncingFallback.membership =
      { s.membership with state := .member, roster := tab16 fun _ => RosterEntry.reset } ∧
    s.syncingFallback.recovery = ⟨false, 0, s.recovery.dumpPending⟩ ∧ s.syncingFallback.claims.table = [] := by
  simp [State.syncingFallback]

@[simp] theorem State.linkBusy_frames :
    s.linkBusy.claims = s.claims ∧ s.linkBusy.frame = s.frame ∧ s.linkBusy.recovery = s.recovery ∧
    s.linkBusy.capture = s.capture ∧ s.linkBusy.store = s.store ∧ s.linkBusy.queue = s.queue ∧
    s.linkBusy.port = s.port ∧ s.linkBusy.link = { s.link with busy := true } ∧
    s.linkBusy.ladder = { s.ladder with grid := .stopped } ∧
    s.linkBusy.membership.state = s.membership.state ∧ s.linkBusy.membership.roster = s.membership.roster ∧
    s.linkBusy.membership.sequence = s.membership.sequence := by
  simp [State.linkBusy]

/-- R57: a running silence timer is held, a stopped one stays stopped. -/
@[simp] theorem State.linkBusy_silence :
    s.linkBusy.membership.silence = .stopped ↔ s.membership.silence = .stopped := by
  simp only [State.linkBusy]
  cases s.membership.silence <;> simp

@[simp] theorem State.startControl_frames (c : QueuedCell) :
    (s.startControl c).claims = s.claims ∧ (s.startControl c).frame = s.frame ∧
    (s.startControl c).recovery = s.recovery ∧ (s.startControl c).capture = s.capture ∧
    (s.startControl c).store = s.store ∧ (s.startControl c).port = s.port ∧
    (s.startControl c).ladder = { s.ladder with grid := .stopped } ∧
    (s.startControl c).membership.state = s.membership.state ∧
    (s.startControl c).membership.roster = s.membership.roster ∧
    ((s.startControl c).membership.silence = .stopped ↔ s.membership.silence = .stopped) := by
  refine ⟨rfl, rfl, rfl, rfl, rfl, rfl, rfl, rfl, rfl, ?_⟩
  simp [State.startControl, State.drive]

@[simp] theorem State.startTile_frames (e : StoreEntry) :
    (s.startTile e).claims = s.claims ∧ (s.startTile e).frame = s.frame ∧ (s.startTile e).recovery = s.recovery ∧
    (s.startTile e).capture = s.capture ∧ (s.startTile e).queue = s.queue ∧ (s.startTile e).port = s.port ∧
    (s.startTile e).ladder = { s.ladder with grid := .stopped } ∧
    (s.startTile e).membership.state = s.membership.state ∧
    (s.startTile e).membership.roster = s.membership.roster ∧
    (s.startTile e).membership.sequence = s.membership.sequence ∧
    ((s.startTile e).membership.silence = .stopped ↔ s.membership.silence = .stopped) := by
  refine ⟨rfl, rfl, rfl, rfl, rfl, rfl, rfl, rfl, rfl, rfl, ?_⟩
  simp [State.startTile, State.drive]

@[simp] theorem State.slotOff_frames (n : SlotNo) :
    (s.slotOff n).frame = s.frame ∧ (s.slotOff n).recovery = s.recovery ∧ (s.slotOff n).link = s.link ∧
    (s.slotOff n).capture = s.capture ∧ (s.slotOff n).store = s.store ∧ (s.slotOff n).port = s.port ∧
    (s.slotOff n).ladder.grid = s.ladder.grid ∧ (s.slotOff n).ladder.rank = s.ladder.rank ∧
    (s.slotOff n).membership.state = s.membership.state ∧ (s.slotOff n).membership.roster = s.membership.roster ∧
    (s.slotOff n).membership.silence = s.membership.silence ∧ (s.slotOff n).claims.table = s.claims.table ∧
    (s.slotOff n).claims.removalMark = s.claims.removalMark := by
  unfold State.slotOff State.settleAttempts
  simp only []
  repeat' (first | split | simp)

end Frames

end Sys2Proof.Machine
end

section
set_option Elab.async false
/-! The timers run in their states only (R33, R57, R78), and a station that sends nothing holds nothing to send (R132,
R160, R167, R168). -/

namespace Sys2Proof.Machine

/-! ### A lost own cell -/

/-- R113, R159, R164: the lost cell's marks are clear and the attempt count has risen. -/
def State.marksCleared (s : State) (mismatch : Bool) : State :=
  { s with
    queue := s.queue.map fun c => { c with inFlight := false }
    store := s.store.map fun e => { e with inFlight := false }
    ladder := { s.ladder with attempts := s.ladder.attempts + 1 }
    port := (if mismatch then s.count fun c => { c with collisions := satAdd c.collisions 1 } else s).port }

theorem State.ownCellAborted_eq (s : State) (src : CellSource) (mismatch : Bool) :
    s.ownCellAborted src mismatch =
      if 4 ≤ s.ladder.attempts + 1 then (s.marksCleared mismatch).enterMuted .collision .collision
      else match src with
        | .queue (.claim n) => ((s.marksCleared mismatch).withdrawOffAfter n).serveClaims
        | .queue _ => (s.marksCleared mismatch).serveClaims
        | .store => s.marksCleared mismatch := by
  cases mismatch <;> rfl

/-- R129, R23, R20: the fourth loss mutes the station, and behind another one the slots are served. -/
theorem State.ownCellAborted_cases (s : State) (src : CellSource) (mismatch : Bool) :
    let t := s.marksCleared mismatch
    (3 ≤ s.ladder.attempts ∧ s.ownCellAborted src mismatch = t.enterMuted .collision .collision) ∨
    (s.ladder.attempts < 3 ∧ src = .store ∧ s.ownCellAborted src mismatch = t) ∨
    (s.ladder.attempts < 3 ∧ ∃ n, src = .queue (.claim n) ∧
      s.ownCellAborted src mismatch = (t.withdrawOffAfter n).serveClaims) ∨
    (s.ladder.attempts < 3 ∧ ∃ k, src = .queue k ∧ (∀ n, k ≠ .claim n) ∧
      s.ownCellAborted src mismatch = t.serveClaims) := by
  rw [s.ownCellAborted_eq]
  split
  · next fourth => exact .inl ⟨by omega, rfl⟩
  · next few =>
    refine .inr ?_
    split
    · next n => exact .inr (.inl ⟨by omega, n, rfl, rfl⟩)
    · next k notClaim => exact .inr (.inr ⟨by omega, k, rfl, fun n is => notClaim n (by rw [is]), rfl⟩)
    · exact .inl ⟨by omega, rfl, rfl⟩

section Frames

variable (s : State)

@[simp] theorem State.marksCleared_frames (m : Bool) :
    (s.marksCleared m).claims = s.claims ∧ (s.marksCleared m).frame = s.frame ∧
    (s.marksCleared m).membership = s.membership ∧ (s.marksCleared m).recovery = s.recovery ∧
    (s.marksCleared m).link = s.link ∧ (s.marksCleared m).capture = s.capture ∧
    (s.marksCleared m).strap = s.strap ∧ (s.marksCleared m).ladder.grid = s.ladder.grid ∧
    (s.marksCleared m).port.notices = s.port.notices := by
  cases m <;> simp [State.marksCleared]

@[simp] theorem State.afterLink_frames (j : Judged) :
    (s.afterLink j).claims = s.claims ∧ (s.afterLink j).frame = s.frame ∧ (s.afterLink j).recovery = s.recovery ∧
    (s.afterLink j).capture = s.capture ∧ (s.afterLink j).store = s.store ∧ (s.afterLink j).queue = s.queue ∧
    (s.afterLink j).strap = s.strap ∧ (s.afterLink j).membership.state = s.membership.state ∧
    (s.afterLink j).membership.roster = s.membership.roster ∧
    (s.afterLink j).membership.sequence = s.membership.sequence ∧
    (s.afterLink j).link = { s.link with busy := false, lastSender := j.cls.header?.map Header.sender } ∧
    (s.afterLink j).ladder.attempts = s.ladder.attempts ∧ (s.afterLink j).port.notices = s.port.notices := by
  simp [State.afterLink]

@[simp] theorem State.afterOwn_frames (f : Flight) :
    (s.afterOwn f).claims = s.claims ∧ (s.afterOwn f).frame = s.frame ∧ (s.afterOwn f).recovery = s.recovery ∧
    (s.afterOwn f).capture = s.capture ∧ (s.afterOwn f).strap = s.strap ∧
    (s.afterOwn f).membership.state = s.membership.state ∧
    (s.afterOwn f).membership.roster = s.membership.roster ∧
    (s.afterOwn f).membership.sequence = s.membership.sequence ∧ (s.afterOwn f).link.flight = none ∧
    (s.afterOwn f).link.transmitter = s.link.transmitter ∧ (s.afterOwn f).ladder.attempts = 0 ∧
    (s.afterOwn f).port.notices = s.port.notices := by
  simp [State.afterOwn]

@[simp] theorem State.afterLost_frames (f : Flight) (j : Judged) :
    (s.afterLost f j).claims = s.claims ∧ (s.afterLost f j).frame = s.frame ∧
    (s.afterLost f j).recovery = s.recovery ∧ (s.afterLost f j).capture = s.capture ∧
    (s.afterLost f j).store = s.store ∧ (s.afterLost f j).queue = s.queue ∧ (s.afterLost f j).strap = s.strap ∧
    (s.afterLost f j).membership.state = s.membership.state ∧
    (s.afterLost f j).membership.roster = s.membership.roster ∧
    (s.afterLost f j).membership.sequence = s.membership.sequence ∧ (s.afterLost f j).link.flight = none ∧
    (s.afterLost f j).link.transmitter = s.link.transmitter ∧
    (s.afterLost f j).ladder.attempts = s.ladder.attempts ∧
    (s.afterLost f j).port.notices = s.port.notices := by
  simp [State.afterLost]

/-- R57: in LISTEN the silence timer runs again, and in the other states it is as it was. -/
@[simp] theorem State.afterLink_silence (j : Judged) :
    (s.afterLink j).membership.silence = if s.membership.state = .listen then .running else s.membership.silence := rfl

@[simp] theorem State.afterOwn_silence (f : Flight) :
    (s.afterOwn f).membership.silence = if s.membership.state = .listen then .running else s.membership.silence := rfl

@[simp] theorem State.afterLost_silence (f : Flight) (j : Judged) :
    (s.afterLost f j).membership.silence =
      if s.membership.state = .listen then .running else s.membership.silence := rfl

@[simp] theorem State.receiverTaken_frames :
    s.receiverTaken.claims = s.claims ∧ s.receiverTaken.frame = s.frame ∧ s.receiverTaken.recovery = s.recovery ∧
    s.receiverTaken.capture = s.capture ∧ s.receiverTaken.store = s.store ∧ s.receiverTaken.queue = s.queue ∧
    s.receiverTaken.strap = s.strap ∧ s.receiverTaken.port = s.port ∧
    s.receiverTaken.membership.state = s.membership.state ∧
    s.receiverTaken.membership.roster = s.membership.roster ∧ s.receiverTaken.link.flight = s.link.flight ∧
    s.receiverTaken.link.transmitter = s.link.transmitter ∧ s.receiverTaken.ladder.attempts = s.ladder.attempts := by
  simp [State.receiverTaken]

@[simp] theorem State.receiverTaken_silence :
    s.receiverTaken.membership.silence =
      if s.membership.state = .listen then .running else s.membership.silence := rfl

/-! ### A BYE (R13, R41, R73, R74) -/

/-- A BYE's part in the table, the outstanding set and, at the other stations, the roster. -/
def State.byeEffect (s : State) (i : Station) (own : Bool) : State :=
  let t : State := { s.byeTable i with
    frame := { s.frame with outstanding := s.frame.outstanding.filter fun k => !(k.owner == i) } }
  if own then t else t.byeRoster i

@[simp] theorem State.byeEffect_frames (i : Station) (own : Bool) :
    (s.byeEffect i own).claims = (s.byeTable i).claims ∧
    (s.byeEffect i own).frame =
      { s.frame with outstanding := s.frame.outstanding.filter fun k => !(k.owner == i) } ∧
    (s.byeEffect i own).recovery = s.recovery ∧ (s.byeEffect i own).link = s.link ∧
    (s.byeEffect i own).ladder = s.ladder ∧ (s.byeEffect i own).capture = s.capture ∧
    (s.byeEffect i own).store = s.store ∧ (s.byeEffect i own).queue = s.queue ∧
    (s.byeEffect i own).strap = s.strap ∧ (s.byeEffect i own).port = s.port ∧
    (s.byeEffect i own).membership.state = s.membership.state ∧
    (s.byeEffect i own).membership.sequence = s.membership.sequence ∧
    (s.byeEffect i own).membership.silence = s.membership.silence := by
  unfold State.byeEffect
  cases own <;> simp

/-- A BYE can close the frame, and the own one leads to LEFT behind that. -/
theorem State.applyBye_cases (i : Station) (own : Bool) :
    ∃ u, (u = s.byeEffect i own ∨
        (s.byeEffect i own).frame.outstanding = [] ∧ u = (s.byeEffect i own).closeFrame .bye) ∧
      s.applyBye i own = if own then u.enterLeft else u := by
  by_cases emptied : (s.frame.outstanding.any (fun k => k.owner == i) &&
      (s.frame.outstanding.filter fun k => !(k.owner == i)).isEmpty) = true
  · refine ⟨_, .inr ⟨?_, rfl⟩, ?_⟩
    · simpa using (Bool.and_eq_true_iff.1 emptied).2
    unfold State.applyBye
    simp only []
    rw [if_pos emptied]
    cases own <;> rfl
  · refine ⟨_, .inl rfl, ?_⟩
    unfold State.applyBye
    simp only []
    rw [if_neg emptied]
    cases own <;> rfl

end Frames

/-! ### The timers -/

section Timers

/-- R33, R57, R78: where each timer may run. -/
theorem State.timersLawful_iff {s : State} :
    s.timersLawful = true ↔
      (s.frame.timerRunning = true → s.membership.state = .member ∨ s.membership.state = .suspect) ∧
      (s.recovery.timerRunning = true → s.membership.state = .syncing ∨ s.membership.state = .suspect) ∧
      (s.membership.silence ≠ .stopped → s.membership.state = .listen) := by
  simp only [State.timersLawful, Bool.and_eq_true, Bool.or_eq_true, Bool.not_eq_true', beq_iff_eq]
  cases s.frame.timerRunning <;> cases s.recovery.timerRunning <;> simp [or_iff_not_imp_left, and_assoc]

variable {s t : State}

/-- What moves neither a timer nor the station state keeps the law. -/
theorem State.timersLawful_congr (frame : t.frame.timerRunning = s.frame.timerRunning)
    (query : t.recovery.timerRunning = s.recovery.timerRunning) (state : t.membership.state = s.membership.state)
    (silence : t.membership.silence = .stopped ↔ s.membership.silence = .stopped) (h : s.timersLawful = true) :
    t.timersLawful = true := by
  rw [State.timersLawful_iff] at h ⊢
  rw [frame, query, state, ne_eq, silence]
  exact h

theorem Recording.timersLawful (part : Recording s t) (h : s.timersLawful = true) : t.timersLawful = true := by
  cases part <;> exact State.timersLawful_congr (by simp) (by simp) (by simp) (by simp) h

theorem State.timersLawful_closeFrame (c : CloseCause) (inPlan : s.membership.state.inPlan = true)
    (h : s.timersLawful = true) : (s.closeFrame c).timersLawful = true := by
  rw [State.timersLawful_iff] at h ⊢
  simp only [State.closeFrame_frameUnit, State.closeFrame_frame]
  exact ⟨fun _ => inPlan_iff.1 inPlan, h.2⟩

theorem State.timersLawful_completeTile (k : TileKey) (inPlan : s.membership.state.inPlan = true)
    (h : s.timersLawful = true) : (s.completeTile k).timersLawful = true := by
  rcases s.completeTile_cases k with ⟨-, is⟩ | ⟨-, ⟨-, is⟩ | ⟨-, is⟩⟩
  · rw [is]; exact h
  · rw [is]; exact h
  · rw [is]; exact State.timersLawful_closeFrame .last inPlan h

/-- A silent station that is not LISTEN runs no timer. -/
theorem State.timersLawful_of_stopped (frame : s.frame.timerRunning = false) (query : s.recovery.timerRunning = false)
    (silence : s.membership.silence = .stopped) : s.timersLawful = true := by
  rw [State.timersLawful_iff]
  simp [frame, query, silence]

theorem State.timersLawful_applyBye (i : Station) (own : Bool) (inPlan : s.membership.state.inPlan = true)
    (h : s.timersLawful = true) : (s.applyBye i own).timersLawful = true := by
  have effect : (s.byeEffect i own).timersLawful = true :=
    State.timersLawful_congr (by simp) (by simp) (by simp) (by simp) h
  obtain ⟨u, closes, is⟩ := s.applyBye_cases i own
  rw [is]
  cases own
  · rcases closes with rfl | ⟨-, rfl⟩
    · exact effect
    · exact State.timersLawful_closeFrame .bye (by simpa using inPlan) effect
  · exact State.timersLawful_of_stopped (by simp) (by simp) (by simp)

/-- Once in MEMBER, the silence timer stopped and the query timer too, the law holds whatever the frame timer does. -/
theorem State.timersLawful_member (member : s.membership.state = .member) (query : s.recovery.timerRunning = false)
    (silence : s.membership.silence = .stopped) : s.timersLawful = true := by
  rw [State.timersLawful_iff]
  simp [member, query, silence]

theorem State.silence_stopped (h : s.timersLawful = true) (state : s.membership.state ≠ .listen) :
    s.membership.silence = .stopped :=
  Classical.not_not.1 fun runs => state ((State.timersLawful_iff.1 h).2.2 runs)

theorem timersLawful_units {hd : Header} {p : Option (List Byte)} (own : Option Flight) :
    UnitRules hd p own fun s => s.timersLawful = true where
  count s f h := h
  mutes s cause why _ _ _ := State.timersLawful_of_stopped (by simp) (by simp) (by simp)
  hears s f listen h := by
    rw [State.timersLawful_iff] at h ⊢
    simp_all
  records s f _ h := h
  queryTimer s _ state h := by
    rw [State.timersLawful_iff] at h ⊢
    exact ⟨h.1, fun _ => state, h.2.2⟩
  installs s p d _ _ state h :=
    State.timersLawful_member (by simp) (by simp)
      (by simpa using State.silence_stopped h (by rintro listen; simp [listen, StationState.inPlan] at state))
  recording s t part _ h := part.timersLawful h
  suspects s why member h := by
    rw [State.timersLawful_iff] at h ⊢
    simp_all
  tile s _ inPlan h := State.timersLawful_completeTile _ inPlan h
  claim s b _ _ h := State.timersLawful_congr (by simp) (by simp) (by simp) (by simp) h
  release s b _ _ h := State.timersLawful_congr (by simp) (by simp) (by simp) (by simp) h
  bye s _ inPlan h := State.timersLawful_applyBye _ _ inPlan h
  close s _ inPlan h := State.timersLawful_closeFrame .close inPlan h
  asked s _ _ h := State.timersLawful_congr (by simp) (by simp) (by simp) (by simp) h
  served s d _ _ h := State.timersLawful_congr (by simp) (by simp) (by simp) (by simp) h

theorem State.timersLawful_lost (src : CellSource) (m : Bool) (h : s.timersLawful = true) :
    (s.ownCellAborted src m).timersLawful = true := by
  rcases s.ownCellAborted_cases src m with ⟨-, is⟩ | ⟨-, -, is⟩ | ⟨-, n, -, is⟩ | ⟨-, k, -, -, is⟩ <;> rw [is]
  · exact State.timersLawful_of_stopped (by simp) (by simp) (by simp)
  all_goals exact State.timersLawful_congr (by simp) (by simp) (by simp) (by simp) h

/-- R57: in LISTEN alone the end of a cell starts the silence timer. -/
theorem State.timersLawful_silenceRuns (frame : t.frame.timerRunning = s.frame.timerRunning)
    (query : t.recovery.timerRunning = s.recovery.timerRunning) (state : t.membership.state = s.membership.state)
    (silence : t.membership.silence = if s.membership.state = .listen then .running else s.membership.silence)
    (h : s.timersLawful = true) : t.timersLawful = true := by
  rw [State.timersLawful_iff] at h ⊢
  rw [frame, query, state, silence]
  refine ⟨h.1, h.2.1, fun runs => ?_⟩
  split at runs
  · assumption
  · exact h.2.2 runs

theorem timersLawful_cell (h : s.timersLawful = true) :
    CellRules s (fun s => s.timersLawful = true) fun s => s.timersLawful = true where
  stays := h
  linkIdle _ := h
  taken _ := State.timersLawful_silenceRuns (by simp) (by simp) (by simp) (by simp) h
  heard j _ := State.timersLawful_silenceRuns (by simp) (by simp) (by simp) (by simp) h
  peers c _ := UnitRules.handOver (timersLawful_units none) c
  own f _ :=
    UnitRules.handOver (timersLawful_units (some f)) _
      (State.timersLawful_silenceRuns (by simp) (by simp) (by simp) (by simp) h)
  lost f j _ _ :=
    State.timersLawful_lost _ _ (State.timersLawful_silenceRuns (by simp) (by simp) (by simp) (by simp) h)
  settles t h := State.timersLawful_congr (by simp) (by simp) (by simp) (by simp) h

theorem Event.timersLawful (part : Event s t) (h : s.timersLawful = true) : t.timersLawful = true := by
  cases part with
  | reset => rfl
  | loads words strap =>
    rw [State.timersLawful_iff] at h ⊢
    simp_all
  | fails d strap =>
    rcases s.strapFailed_cases d with ⟨-, is⟩ | ⟨-, is⟩ <;> rw [is]
    · exact h
    · exact State.timersLawful_of_stopped (by simp) (by simp) (by simp)
  | founds listen =>
    rw [State.timersLawful_iff] at h ⊢
    simp_all
  | frameTimerStops =>
    rw [State.timersLawful_iff] at h ⊢
    exact ⟨by simp [State.setFrameTimer], h.2⟩
  | queryRepeats running few =>
    rw [State.timersLawful_iff] at h ⊢
    simp_all
  | queryTimerStops =>
    rw [State.timersLawful_iff] at h ⊢
    exact ⟨h.1, by simp [State.setQueryTimer], h.2.2⟩
  | selfTrusts suspect =>
    exact State.timersLawful_member (by simp) (by simp) (by simpa using State.silence_stopped h (by simp [suspect]))
  | fallsBack syncing =>
    exact State.timersLawful_member (by simp) (by simp) (by simpa using State.silence_stopped h (by simp [syncing]))
  | rejoin left =>
    rw [State.timersLawful_iff] at h ⊢
    simp [State.clearPlan, State.setState, State.startSilence, State.setSilence]
  | _ =>
    exact State.timersLawful_congr (by simp [State.report]) (by simp [State.report]) (by simp [State.report])
      (by simp [State.report]) h

end Timers

/-! ### The silent states -/

section Silent

variable {s t : State}

/-- A station that holds nothing to send: no cell, no row, no context at work, nothing on the link. -/
structure State.Empty (s : State) : Prop where
  queue : s.queue = []
  store : s.store = []
  contexts : ∀ n, s.contextAt n = .idle
  flight : s.link.flight = none
  transmitter : s.link.transmitter = .idle

theorem State.silentEmpty_iff :
    s.silentEmpty = true ↔ (s.membership.state.silent = true → s.Empty) := by
  have all : slotOrder.all (fun n => s.contextAt n == .idle) = true ↔ ∀ n, s.contextAt n = .idle := by
    simp [List.all_eq_true]
  simp only [State.silentEmpty, Bool.or_eq_true, Bool.and_eq_true, Bool.not_eq_true', List.isEmpty_iff, beq_iff_eq, all]
  cases s.membership.state.silent
  · simp
  · simp only [Bool.true_eq_false, false_or, true_imp_iff]
    exact ⟨fun ⟨⟨⟨⟨q, st⟩, c⟩, f⟩, x⟩ => ⟨q, st, c, f, x⟩, fun ⟨q, st, c, f, x⟩ => ⟨⟨⟨⟨q, st⟩, c⟩, f⟩, x⟩⟩

theorem StationState.silent_of_inPlan {st : StationState} (inPlan : st.inPlan = true) : st.silent = false := by
  cases st <;> simp_all [StationState.inPlan, StationState.silent]

/-- In a state that sends the law asks nothing. -/
theorem State.silentEmpty_of_sends (sends : s.membership.state.silent = false) : s.silentEmpty = true := by
  simp [State.silentEmpty, sends]

theorem State.silentEmpty_of_empty (empty : s.Empty) : s.silentEmpty = true := State.silentEmpty_iff.2 fun _ => empty

/-- What changes neither the state nor anything that could be sent keeps the law. -/
theorem State.Empty.congr (queue : t.queue = s.queue) (store : t.store = s.store)
    (capture : t.capture.contexts = s.capture.contexts)
    (flight : t.link.flight = s.link.flight) (transmitter : t.link.transmitter = s.link.transmitter) (h : s.Empty) :
    t.Empty where
  queue := queue.trans h.queue
  store := store.trans h.store
  contexts n := by rw [State.contextAt, capture]; exact h.contexts n
  flight := flight.trans h.flight
  transmitter := transmitter.trans h.transmitter

theorem State.silentEmpty_congr (state : t.membership.state = s.membership.state) (queue : t.queue = s.queue)
    (store : t.store = s.store) (capture : t.capture.contexts = s.capture.contexts)
    (flight : t.link.flight = s.link.flight) (transmitter : t.link.transmitter = s.link.transmitter)
    (h : s.silentEmpty = true) : t.silentEmpty = true := by
  rw [State.silentEmpty_iff] at h ⊢
  rw [state]
  exact fun silent => (h silent).congr queue store capture flight transmitter

/-- A silent station on an idle link. -/
structure State.SilentIdle (s : State) : Prop where
  silent : s.silentEmpty = true
  flight : s.link.flight = none
  transmitter : s.link.transmitter = .idle

theorem State.SilentIdle.of_sends (sends : t.membership.state.silent = false) (link : t.link = s.link)
    (h : s.SilentIdle) : t.SilentIdle where
  silent := State.silentEmpty_of_sends sends
  flight := link ▸ h.flight
  transmitter := link ▸ h.transmitter

theorem State.empty_enterMuted (c : MuteCause) (w : StateCause) : (s.enterMuted c w).Empty where
  queue := by simp
  store := by simp
  contexts n := by
    rw [State.contextAt, State.enterMuted_capture]
    exact tab4_get (fun _ => Context.idle) n
  flight := by simp
  transmitter := by simp

theorem State.SilentIdle.of_empty (h : s.Empty) : s.SilentIdle := ⟨State.silentEmpty_of_empty h, h.flight, h.transmitter⟩

theorem State.SilentIdle.empty_enterLeft (h : s.SilentIdle) : s.enterLeft.Empty where
  queue := by simp
  store := by simp
  contexts n := by
    rw [State.contextAt, State.enterLeft_capture]
    exact tab4_get (fun _ => Context.idle) n
  flight := by simp [h.flight]
  transmitter := by simp [h.transmitter]

theorem silentIdle_units {hd : Header} {p : Option (List Byte)} (own : Option Flight) :
    UnitRules hd p own State.SilentIdle where
  count s f h := ⟨h.silent, h.flight, h.transmitter⟩
  mutes s cause why _ _ _ := .of_empty (State.empty_enterMuted _ _)
  hears s f _ h := h.of_sends (by simp [StationState.silent]) (by simp)
  records s f syncing h := h.of_sends (by simp [syncing, StationState.silent]) (by simp)
  queryTimer s _ state h := h.of_sends (by rcases state with is | is <;> simp [is, StationState.silent]) (by simp)
  installs s p d _ _ _ h := h.of_sends (by simp [StationState.silent]) (by simp)
  recording s t part inPlan h := by
    refine h.of_sends ?_ ?_
    · rw [part.same_state]; exact StationState.silent_of_inPlan inPlan
    · cases part <;> simp
  suspects s why _ h := h.of_sends (by simp [StationState.silent]) (by simp)
  tile s _ inPlan h := h.of_sends (by simpa using StationState.silent_of_inPlan inPlan) (by simp)
  claim s b _ inPlan h := h.of_sends (by simpa using StationState.silent_of_inPlan inPlan) (by simp)
  release s b _ inPlan h := h.of_sends (by simpa using StationState.silent_of_inPlan inPlan) (by simp)
  bye s _ inPlan h := by
    have effect : (s.byeEffect hd.sender own.isSome).SilentIdle :=
      h.of_sends (by simpa using StationState.silent_of_inPlan inPlan) (by simp)
    obtain ⟨u, closes, is⟩ := s.applyBye_cases _ own.isSome
    have idle : u.SilentIdle := by
      rcases closes with rfl | ⟨-, rfl⟩
      · exact effect
      · exact effect.of_sends (by simpa using StationState.silent_of_inPlan inPlan) (by simp)
    rw [is]
    split
    · exact .of_empty idle.empty_enterLeft
    · exact idle
  close s _ inPlan h := h.of_sends (by simpa using StationState.silent_of_inPlan inPlan) (by simp)
  asked s _ member h := h.of_sends (by simp [member, StationState.silent]) (by simp)
  served s d _ member h := h.of_sends (by simp [member, StationState.silent]) (by simp)

/-- A station with an own cell on the link is in a state that sends. -/
theorem State.sends_of_flight {f : Flight} (flight : s.link.flight = some f) (h : s.silentEmpty = true) :
    s.membership.state.silent = false := by
  by_contra silent
  have empty := State.silentEmpty_iff.1 h (by simpa using silent)
  simp [empty.flight] at flight

theorem State.silentIdle_lost (src : CellSource) (m : Bool) (sends : s.membership.state.silent = false)
    (h : s.SilentIdle) : (s.ownCellAborted src m).SilentIdle := by
  rcases s.ownCellAborted_cases src m with ⟨-, is⟩ | ⟨-, -, is⟩ | ⟨-, n, -, is⟩ | ⟨-, k, -, -, is⟩ <;> rw [is]
  · exact .of_empty (State.empty_enterMuted _ _)
  all_goals exact h.of_sends (by simpa using sends) (by simp)

theorem silentEmpty_cell (h : s.silentEmpty = true) :
    CellRules s (fun s => s.silentEmpty = true) State.SilentIdle where
  stays := h
  linkIdle _ := h
  taken _ := State.silentEmpty_congr (by simp) (by simp) (by simp) (by simp) (by simp) (by simp) h
  heard j listens := by
    obtain ⟨-, idle, flight⟩ := State.listens_iff.1 listens
    exact ⟨State.silentEmpty_congr (by simp) (by simp) (by simp) (by simp) (by simp) (by simp) h,
      by simp [flight], by simp [idle]⟩
  peers c _ := UnitRules.handOver (silentIdle_units none) c
  own f ends := by
    obtain ⟨-, idle, flight, -⟩ := State.ends_iff.1 ends
    have sends := State.sends_of_flight flight h
    exact UnitRules.handOver (silentIdle_units (some f)) _
      ⟨State.silentEmpty_of_sends (by simpa using sends), by simp, by simp [idle]⟩
  lost f j flight idle := by
    have sends := State.sends_of_flight flight h
    exact State.silentIdle_lost _ _ (by simpa using sends)
      ⟨State.silentEmpty_of_sends (by simpa using sends), by simp, by simp [idle]⟩
  settles t h := State.silentEmpty_congr (by simp) (by simp) (by simp) (by simp) (by simp) (by simp) h.silent

theorem sends_of_transmitter {x : Transmitter} (driving : s.link.transmitter = x) (ne : x ≠ .idle)
    (h : s.silentEmpty = true) : s.membership.state.silent = false := by
  by_contra silent
  have empty := State.silentEmpty_iff.1 h (by simpa using silent)
  exact ne (driving ▸ empty.transmitter)

/-- R120: a station with a cell to send is in a state that sends. -/
theorem State.sends_of_selected {src : CellSource} (selected : s.selected = some src) :
    s.membership.state.silent = false := by
  unfold State.selected at selected
  cases state : s.membership.state <;> simp [state, StationState.silent] at selected ⊢

/-- No context works at a silent station, so the sensor port changes nothing of it. -/
theorem capture_idle_of_empty (n : SlotNo) (h : s.Empty) :
    beginCapture s n = s ∧ endEarly s n = s ∧ ∀ row pixels, takeLine row pixels s n = s := by
  simp [beginCapture, endEarly, takeLine, h.contexts n]

theorem State.silentEmpty_capture (same : s.Empty → t = s) (state : t.membership.state = s.membership.state)
    (h : s.silentEmpty = true) : t.silentEmpty = true := by
  cases silent : s.membership.state.silent
  · exact State.silentEmpty_of_sends (state ▸ silent)
  · rw [same (State.silentEmpty_iff.1 h silent)]; exact h

theorem StationState.sends_of_allows {st : StationState} (allows : stateAllows st 6 = true) :
    st = .listen ∨ st.silent = false := by
  cases st <;> simp_all [stateAllows, stateAllows.slotsAllowed, StationState.silent]

theorem State.Empty.takeIntoUse (h : s.Empty) : s.takeIntoUse.Empty :=
  h.congr (by simp) (by simp) (by simp) (by simp) (by simp)

/-- In LISTEN no slot request queues a cell. -/
theorem State.Empty.slotOff (n : SlotNo) (listen : s.membership.state = .listen) (h : s.Empty) : (s.slotOff n).Empty := by
  refine h.congr ?_ (by simp) (by simp) (by simp) (by simp)
  unfold State.slotOff
  simp only []
  repeat' split
  all_goals simp_all [State.isMember, State.withdraw_queue, h.queue]

theorem Event.silentEmpty (part : Event s t) (timers : s.timersLawful = true) (h : s.silentEmpty = true) :
    t.silentEmpty = true := by
  have sends (silent : s.membership.state.silent = false) (state : t.membership.state = s.membership.state) :
      t.silentEmpty = true := State.silentEmpty_of_sends (state ▸ silent)
  cases part with
  | reset => rfl
  | loads words strap =>
    have empty := State.silentEmpty_iff.1 h (by simp [strap, StationState.silent])
    exact State.silentEmpty_of_empty (empty.congr (by simp) (by simp) (by simp) (by simp) (by simp))
  | fails d strap =>
    rcases s.strapFailed_cases d with ⟨-, is⟩ | ⟨-, is⟩ <;> rw [is]
    · exact h
    · exact State.silentEmpty_of_empty (State.empty_enterMuted _ _).takeIntoUse
  | mismatch sending => exact sends (sends_of_transmitter sending (by simp) h) rfl
  | matched sending => exact sends (sends_of_transmitter sending (by simp) h) rfl
  | markDone marking => exact sends (sends_of_transmitter marking (by simp) h) rfl
  | control c selected => exact sends (State.sends_of_selected selected) (by simp)
  | tile e rest selected => exact sends (State.sends_of_selected selected) (by simp)
  | founds => exact State.silentEmpty_of_sends (by simp [StationState.silent])
  | closeQueued member => exact sends (by simp [member, StationState.silent]) (by simp)
  | queryRepeats running =>
    have state := (State.timersLawful_iff.1 timers).2.1 running
    exact sends (by rcases state with is | is <;> simp [is, StationState.silent]) (by simp)
  | selfTrusts => exact State.silentEmpty_of_sends (by simp [StationState.silent])
  | fallsBack => exact State.silentEmpty_of_sends (by simp [StationState.silent])
  | captureBegins n => exact State.silentEmpty_capture (fun empty => (capture_idle_of_empty n empty).1) (by simp) h
  | captureEnds n => exact State.silentEmpty_capture (fun empty => (capture_idle_of_empty n empty).2.1) (by simp) h
  | line row pixels n =>
    exact State.silentEmpty_capture (fun empty => (capture_idle_of_empty n empty).2.2 row pixels) (by simp) h
  | slotOff n allows =>
    rcases StationState.sends_of_allows allows with listen | silent
    · have empty := State.silentEmpty_iff.1 h (by simp [listen, StationState.silent])
      exact State.silentEmpty_of_empty (empty.slotOff n listen)
    · exact sends silent (by simp)
  | slotOn n allows =>
    rcases StationState.sends_of_allows allows with listen | silent
    · have empty := State.silentEmpty_iff.1 h (by simp [listen, StationState.silent])
      refine State.silentEmpty_of_empty (empty.congr ?_ (by simp) (by simp) (by simp) (by simp))
      simp [State.claimIfReady, State.isMember, listen]
    · exact sends silent (by simp)
  | leave member => exact sends (by simp [member, StationState.silent]) (by simp)
  | rejoin left =>
    have empty := State.silentEmpty_iff.1 h (by simp [left, StationState.silent])
    exact State.silentEmpty_of_empty ⟨rfl, rfl, tab4_get fun _ => Context.idle, empty.flight, empty.transmitter⟩
  | _ =>
    exact State.silentEmpty_congr (by simp) (by simp) (by simp) (by simp) (by simp) (by simp) h

end Silent

/-! ### Every step -/

theorem step_timersLawful {s t : State} (h : s.timersLawful = true) (next : step s = .next t) :
    t.timersLawful = true :=
  step_keeps (P := fun s => s.timersLawful = true) (fun _ _ h => h) (fun _ _ part => part.timersLawful)
    (fun _ j h => (timersLawful_cell h).cellEnds j) next h

theorem step_silentEmpty {s t : State} (timers : s.timersLawful = true) (h : s.silentEmpty = true)
    (next : step s = .next t) : t.silentEmpty = true :=
  (step_keeps (P := fun s => s.timersLawful = true ∧ s.silentEmpty = true) (fun _ _ h => h)
    (fun _ _ part ⟨timers, h⟩ => ⟨part.timersLawful timers, part.silentEmpty timers h⟩)
    (fun _ j ⟨timers, h⟩ => ⟨(timersLawful_cell timers).cellEnds j, (silentEmpty_cell h).cellEnds j⟩) next
    ⟨timers, h⟩).2

/-- Settles O57: each part of a command leaves a timer running in its states only, and whatever leads to a silent state
clears what could be sent. -/
theorem everyStepKeepsTimersAndSilentStates : Obligations.EveryStepKeepsTimersAndSilentStates :=
  ⟨fun _ _ h next => step_timersLawful h next, fun _ _ timers h next => step_silentEmpty timers h next⟩

end Sys2Proof.Machine
end

section
set_option Elab.async false
/-! The limits that every step keeps: notices, the claim table, the line store, the sensor row counter, the two attempt
counts and the failed strap attempts (R201, R4, R155, R133, R78, R117, R129, R178). -/

namespace Sys2Proof.Machine

theorem State.takeIntoUse_port (s : State) : s.takeIntoUse.port.notices = s.port.notices := by simp

/-! ### Notices (R201) -/

section Notices

/-- At most eight notices wait. -/
def State.FewNotices (s : State) : Prop := s.port.notices.length ≤ 8

variable {s t : State}

theorem State.FewNotices.congr (notices : t.port.notices = s.port.notices) (h : s.FewNotices) : t.FewNotices := by
  rw [State.FewNotices, notices]
  exact h

theorem State.FewNotices.deposit (n : Notice) (h : s.FewNotices) : (s.deposit n).FewNotices := s.deposit_bounded n h

theorem State.FewNotices.count (f : Counters → Counters) (h : s.FewNotices) : (s.count f).FewNotices := h

theorem State.FewNotices.enterMuted (c : MuteCause) (w : StateCause) (h : s.FewNotices) :
    (s.enterMuted c w).FewNotices := .deposit _ (.congr (s := s) rfl h)

theorem State.FewNotices.changeSlot (n : SlotNo) (st : SlotState) (c : SlotCause) (h : s.FewNotices) :
    (s.changeSlot n st c).FewNotices := .deposit (s := s.setSlotState n st) _ h

theorem State.FewNotices.startSlot (n : SlotNo) (h : s.FewNotices) : (s.startSlot n).FewNotices := by
  unfold State.startSlot
  split
  · exact h.changeSlot n _ _
  · exact h

theorem State.FewNotices.memberCells (h : s.FewNotices) : s.memberCells.FewNotices := by
  have started := State.forSlots_keeps (P := State.FewNotices) (f := State.startSlot) (s.enqueue .hello)
    (fun _ n => .startSlot n) (.congr (s := s) (by simp) h)
  exact .congr (s := (s.enqueue .hello).forSlots State.startSlot) (by simp [State.memberCells, State.startOnSlots]) started

theorem State.FewNotices.slotReleased (n : SlotNo) (h : s.FewNotices) : (s.slotReleased n).FewNotices := by
  unfold State.slotReleased
  split
  · exact h.changeSlot n _ _
  · exact h

theorem State.FewNotices.slotPass (mark : Bool) (removed : List Entry) (n : SlotNo) (h : s.FewNotices) :
    (slotPass mark removed s n).FewNotices := by
  unfold Machine.slotPass
  split
  · split
    · exact h.changeSlot n _ _
    · exact h
  · split
    · exact h.changeSlot n _ _
    · exact h
  all_goals exact h

theorem State.FewNotices.openTable (h : s.FewNotices) : s.openTable.FewNotices := by
  refine .congr (s := State.forSlots _ _) (by simp [State.openTable]; rfl) ?_
  exact State.forSlots_keeps (P := State.FewNotices) _ (fun _ n => .slotPass _ _ n) (.congr (s := s) rfl h)

theorem State.FewNotices.cutSlot (f : Word) (n : SlotNo) (h : s.FewNotices) : (cutSlot f s n).FewNotices := by
  unfold Machine.cutSlot
  split
  · exact .count _ (.deposit _ (.congr (s := s) rfl h))
  · exact h

theorem State.FewNotices.closeFrame (c : CloseCause) (h : s.FewNotices) : (s.closeFrame c).FewNotices := by
  have opened : s.openTable.openFrame.scheduleHello.FewNotices := .congr (s := s.openTable) (by simp) h.openTable
  cases c with
  | close =>
    exact .congr (s := State.forSlots _ _) (by simp [State.closeFrame]; rfl)
      (State.forSlots_keeps (P := State.FewNotices) _ (fun _ n => .cutSlot _ n) opened)
  | _ => exact .congr (s := s.openTable.openFrame.scheduleHello) (by simp [State.closeFrame]) opened

theorem State.FewNotices.completeTile (k : TileKey) (h : s.FewNotices) : (s.completeTile k).FewNotices := by
  rcases s.completeTile_cases k with ⟨-, is⟩ | ⟨-, ⟨-, is⟩ | ⟨-, is⟩⟩ <;> rw [is]
  · exact h
  · exact h
  · exact .closeFrame .last (.congr (s := s) rfl h)

theorem State.FewNotices.applyBye (i : Station) (own : Bool) (h : s.FewNotices) : (s.applyBye i own).FewNotices := by
  obtain ⟨u, closes, is⟩ := s.applyBye_cases i own
  have effect : (s.byeEffect i own).FewNotices := .congr (s := s) (by simp) h
  have few : u.FewNotices := by
    rcases closes with rfl | ⟨-, rfl⟩
    · exact effect
    · exact effect.closeFrame .bye
  rw [is]
  split
  · exact .deposit _ (.congr (s := u) rfl few)
  · exact few

theorem State.FewNotices.claimAccepted (n : SlotNo) (h : s.FewNotices) : (s.claimAccepted n).FewNotices := by
  unfold State.claimAccepted
  split
  · exact .deposit _ (.congr (s := s) (by simp) h)
  · exact .deposit _ (.congr (s := s) rfl h)

theorem State.FewNotices.claimRefused (n : SlotNo) (why : ClaimRefusal) (h : s.FewNotices) :
    (s.claimRefused n why).FewNotices := by
  have outcome (st : SlotState) (c : SlotCause) :
      ((s.setSlot n { s.slotAt n with state := st, offAfter := false }).deposit (.slot n st c)).FewNotices :=
    .deposit _ (.congr (s := s) rfl h)
  cases why with
  | full => exact outcome _ _
  | overlap => exact outcome _ _
  | _ => exact .congr (by simp [State.claimRefused]; rfl) (outcome _ _)

theorem State.FewNotices.applyClaim (i : Station) (b : ClaimBody) (c : Option Crop) (h : s.FewNotices) :
    (s.applyClaim i b c).FewNotices := by
  unfold State.applyClaim
  simp only []
  split
  · have appended : State.FewNotices
        { s with claims := { s.claims with table := s.claims.table ++ [claimedEntry i b c] } } := h
    split
    · exact appended.claimAccepted _
    · exact appended
  · split
    · exact h.claimRefused _ _
    · exact h

theorem State.FewNotices.applyRelease (i : Station) (b : Byte) (own : Bool) (h : s.FewNotices) :
    (s.applyRelease i b own).FewNotices := by
  have removed (table : List Entry) (mark : Bool) : State.FewNotices
      { s with claims := { s.claims with table := table, removalMark := mark } } := h
  unfold State.applyRelease
  split
  · exact h
  · simp only []
    split
    · split
      · exact h.slotReleased _
      · exact h
    · split
      · split
        · exact (removed _ _).slotReleased _
        · exact removed _ _
      · exact removed _ s.claims.removalMark
      · exact h

theorem State.FewNotices.rederiveSlot (n : SlotNo) (h : s.FewNotices) : (s.rederiveSlot n).FewNotices := by
  unfold State.rederiveSlot
  simp only []
  split
  · exact .congr (s := s) rfl h
  · exact .deposit _ (.congr (s := s) rfl h)

theorem State.FewNotices.install (hd : Header) (d : DumpBody) (h : s.FewNotices) : (s.install hd d).FewNotices := by
  have planned : (s.installPlan hd d).installLocal.FewNotices := .congr (s := s) (by simp) h
  have rederived := State.forSlots_keeps (P := State.FewNotices) (f := State.rederiveSlot) _ (fun _ n => .rederiveSlot n)
    planned
  have cells (p : QueueKind → Bool) : ((((s.installPlan hd d).installLocal.forSlots State.rederiveSlot).withdraw
      p).setState .member).memberCells.FewNotices := .memberCells (by simpa [State.FewNotices] using rederived)
  unfold State.install
  simp only []
  split
  · exact ((cells _).deposit _).count _
  · exact (((cells _).deposit _).deposit _).count _

theorem State.FewNotices.suspectSlot (n : SlotNo) (h : s.FewNotices) : (s.suspectSlot n).FewNotices := by
  unfold State.suspectSlot
  split
  · exact .deposit _ (.congr (s := s) rfl h)
  · exact h

theorem State.FewNotices.enterSuspect (why : StateCause) (h : s.FewNotices) : (s.enterSuspect why).FewNotices := by
  have withdrawn : s.planWithdrawn.FewNotices := .congr (s := s) rfl h
  have slots := State.forSlots_keeps (P := State.FewNotices) (f := State.suspectSlot) _ (fun _ n => .suspectSlot n)
    withdrawn
  rw [s.enterSuspect_eq]
  exact .deposit _ (.congr (s := s.planWithdrawn.forSlots State.suspectSlot) (by simp) slots)

theorem fewNotices_units {hd : Header} {p : Option (List Byte)} (own : Option Flight) :
    UnitRules hd p own State.FewNotices where
  count s f h := h
  mutes s cause why _ _ h := h.enterMuted cause why
  hears s f _ h := .deposit _ (.congr (s := s) (by simp [State.recordFrame]) h)
  records s f _ h := h
  queryTimer s _ _ h := h
  installs s p d _ _ _ h := h.install hd d
  recording s t part _ h := by
    cases part <;> exact .congr (s := s) (by simp) h
  suspects s why _ h := h.enterSuspect why
  tile s _ _ h := h.completeTile _
  claim s b _ _ h := h.applyClaim _ _ _
  release s b _ _ h := h.applyRelease _ _ _
  bye s _ _ h := h.applyBye _ _
  close s _ _ h := h.closeFrame .close
  asked s _ _ h := .congr (s := s) (by simp) h
  served s d _ _ h := .congr (s := s) (by simp) h

theorem State.FewNotices.lost (src : CellSource) (m : Bool) (h : s.FewNotices) : (s.ownCellAborted src m).FewNotices := by
  have cleared : (s.marksCleared m).FewNotices := .congr (s := s) (by simp) h
  rcases s.ownCellAborted_cases src m with ⟨-, is⟩ | ⟨-, -, is⟩ | ⟨-, n, -, is⟩ | ⟨-, k, -, -, is⟩ <;> rw [is]
  · exact cleared.enterMuted _ _
  · exact cleared
  · refine .congr (s := (s.marksCleared m).withdrawOffAfter n) (by simp) ?_
    unfold State.withdrawOffAfter
    split
    · exact .deposit _ (.congr (s := s.marksCleared m) rfl cleared)
    · exact cleared
  · exact .congr (s := s.marksCleared m) (by simp) cleared

theorem fewNotices_cell (h : s.FewNotices) : CellRules s State.FewNotices State.FewNotices where
  stays := h
  linkIdle _ := h
  taken _ := .congr (s := s) (by simp) h
  heard j _ := .congr (s := s) (by simp) h
  peers c _ := UnitRules.handOver (fewNotices_units none) c
  own f _ := UnitRules.handOver (fewNotices_units (some f)) _ (.congr (s := s) (by simp) h)
  lost f j _ _ := .lost _ _ (.congr (s := s) (by simp) h)
  settles t h := .congr (s := t) (by simp) h

theorem State.FewNotices.abandonNotices (h : s.FewNotices) : s.abandonNotices.FewNotices :=
  ((h.deposit _).deposit _).count _

theorem State.FewNotices.loadSlot (n : SlotNo) (h : s.FewNotices) : (loadSlot s n).FewNotices := by
  simp only [Machine.loadSlot]
  split
  · exact .deposit _ (.congr (s := s) rfl h)
  · exact .congr (s := s) rfl h

theorem Event.fewNotices (part : Event s t) (h : s.FewNotices) : t.FewNotices := by
  cases part with
  | port p few => exact few.trans (max_le h le_rfl)
  | reset => exact Nat.zero_le _
  | loads words strap =>
    have loaded : State.FewNotices ((State.forSlots { s with strap := { s.strap with words := words } }
        Machine.loadSlot).setState .listen) :=
      State.forSlots_keeps (P := State.FewNotices) _ (fun _ n => .loadSlot n) (.congr (s := s) rfl h)
    exact .congr (State.takeIntoUse_port _) (loaded.deposit (.state .listen .start))
  | fails d strap =>
    rcases s.strapFailed_cases d with ⟨-, is⟩ | ⟨-, is⟩ <;> rw [is]
    · exact h
    · exact .congr (State.takeIntoUse_port _) (.enterMuted _ _ (.congr (s := s) rfl h))
  | founds => exact .memberCells (.deposit _ (.congr (s := s) rfl h))
  | selfTrusts => exact .abandonNotices (.memberCells (.congr (s := s) rfl h))
  | fallsBack => exact .abandonNotices (.memberCells (.congr (s := s) rfl h))
  | _ => exact .congr (s := s) (by simp [State.report]) h

theorem step_fewNotices (next : step s = .next t) (h : s.FewNotices) : t.FewNotices :=
  step_keeps (fun _ _ h => h) (fun _ _ part => part.fewNotices) (fun _ j h => (fewNotices_cell h).cellEnds j) next h

end Notices

/-! ### The claim table (R4, R10) -/

section Table

variable {s t : State}

@[simp] theorem State.install_table (s : State) (h : Header) (d : DumpBody) :
    (s.install h d).claims.table = s.dumpTable d := by
  unfold State.install
  cases s.isMember <;> simp [State.forSlots_eq, State.installPlan]

theorem State.openedTable_length (s : State) : s.openedTable.length ≤ s.claims.table.length := by
  rw [State.openedTable, List.length_map]
  exact List.length_filter_le _ _

theorem byeEntries_length (table : List Entry) (i : Station) : (byeEntries table i).length ≤ table.length := by
  rw [byeEntries, List.length_map]
  exact List.length_filter_le _ _

/-- R7, R10: a CLAIM is accepted while the table holds fewer than 32 entries. -/
theorem State.judgeClaim_accepts {i : Station} {b : ClaimBody} (accepts : s.judgeClaim i b = none) :
    s.present i = true ∧ s.claims.table.any (fun e => e.key == ⟨i, Fin.ofNat 4 b.slot.toNat⟩) = false ∧
      s.claims.table.length < 32 := by
  unfold State.judgeClaim at accepts
  split at accepts; · cases accepts
  next present =>
  split at accepts; · cases accepts
  split at accepts; · cases accepts
  split at accepts; · cases accepts
  next new =>
  split at accepts; · cases accepts
  next room =>
  exact ⟨by simpa using present, Bool.eq_false_iff.2 new, by omega⟩

/-- R11: an accepted CLAIM appends its entry, and a refused one leaves the table. -/
theorem State.applyClaim_table (s : State) (i : Station) (b : ClaimBody) (c : Option Crop) :
    (s.applyClaim i b c).claims.table =
      if s.judgeClaim i b = none then s.claims.table ++ [claimedEntry i b c] else s.claims.table := by
  unfold State.applyClaim
  cases s.judgeClaim i b <;> cases c <;> simp

theorem State.applyRelease_table_length (s : State) (i : Station) (b : Byte) (own : Bool) :
    (s.applyRelease i b own).claims.table.length ≤ s.claims.table.length := by
  have removed (k : TileKey) : (withoutKey s.claims.table k).length ≤ s.claims.table.length := List.length_filter_le _ _
  unfold State.applyRelease
  split
  · exact le_rfl
  · simp only []
    split
    · split <;> simp
    · split
      · split
        · simpa using removed _
        · exact removed _
      · simp [releaseKey]
      · exact le_rfl

theorem entriesAt_length {p : List Byte} {n i : Nat} {es : List Entry} (read : entriesAt p n i = some es) :
    es.length = n := by
  induction n generalizing i es with
  | zero => cases read; rfl
  | succ n ih =>
    simp only [entriesAt] at read
    split at read
    · next e rest _ more =>
      cases read
      rw [List.length_cons, ih more]
    · cases read

/-- R91: a usable DUMP holds at most 32 entries, as many as its count says. -/
theorem dumpOf_entries {p : List Byte} {d : DumpBody} (usable : dumpOf p = some d) : d.entries.length ≤ 32 := by
  unfold dumpOf at usable
  simp only [] at usable
  split at usable
  · cases usable
  · next fits =>
    simp only [Bool.or_eq_true, decide_eq_true_eq, bne_iff_ne, not_or, not_lt] at fits
    split at usable
    · cases usable
    · next es read =>
      cases usable
      exact (entriesAt_length read).trans_le fits.1

/-- At most 32 entries. -/
def State.TableFits (s : State) : Prop := s.claims.table.length ≤ 32

theorem State.TableFits.le (shorter : t.claims.table.length ≤ s.claims.table.length) (h : s.TableFits) : t.TableFits :=
  shorter.trans h

theorem State.TableFits.closeFrame (c : CloseCause) (h : s.TableFits) : (s.closeFrame c).TableFits :=
  h.le (by rw [s.closeFrame_table]; exact s.openedTable_length)

theorem State.TableFits.empty (none : s.claims.table = []) : s.TableFits := by simp [State.TableFits, none]

theorem State.TableFits.applyBye (i : Station) (own : Bool) (h : s.TableFits) : (s.applyBye i own).TableFits := by
  have effect : (s.byeEffect i own).TableFits := h.le (by simpa [State.byeTable] using byeEntries_length _ i)
  obtain ⟨u, closes, is⟩ := s.applyBye_cases i own
  have fits : u.TableFits := by
    rcases closes with rfl | ⟨-, rfl⟩
    · exact effect
    · exact effect.closeFrame .bye
  rw [is]
  split
  · exact .empty (by simp [State.enterLeft, State.clearPlan])
  · exact fits

theorem tableFits_units {hd : Header} {p : Option (List Byte)} (own : Option Flight) :
    UnitRules hd p own State.TableFits where
  count s f h := h
  mutes s cause why _ _ h := h.le (by simp)
  hears s f _ h := h.le (by simp)
  records s f _ h := h
  queryTimer s _ _ h := h
  installs s p d _ usable _ h := by
    rw [State.TableFits, State.install_table, State.dumpTable, List.length_map]
    exact dumpOf_entries usable
  recording s t part _ h := by
    cases part <;> exact h.le (by simp)
  suspects s why _ h := h.le (by simp)
  tile s _ _ h := by
    rcases s.completeTile_cases _ with ⟨-, is⟩ | ⟨-, ⟨-, is⟩ | ⟨-, is⟩⟩ <;> rw [is]
    · exact h
    · exact h
    · exact .closeFrame .last (h.le le_rfl)
  claim s b _ _ h := by
    rw [State.TableFits, s.applyClaim_table]
    split
    · next accepts =>
      have room := (State.judgeClaim_accepts accepts).2.2
      rw [List.length_append, List.length_singleton]
      omega
    · exact h
  release s b _ _ h := h.le (s.applyRelease_table_length _ _ _)
  bye s _ _ h := h.applyBye _ _
  close s _ _ h := h.closeFrame .close
  asked s _ _ h := h.le (by simp)
  served s d _ _ h := h.le (by simp)

theorem State.ownCellAborted_table (s : State) (src : CellSource) (m : Bool) :
    (s.ownCellAborted src m).claims.table = s.claims.table := by
  rcases s.ownCellAborted_cases src m with ⟨-, is⟩ | ⟨-, -, is⟩ | ⟨-, n, -, is⟩ | ⟨-, k, -, -, is⟩ <;> rw [is] <;> simp

theorem tableFits_cell (h : s.TableFits) : CellRules s State.TableFits State.TableFits where
  stays := h
  linkIdle _ := h
  taken _ := h.le (by simp)
  heard j _ := h.le (by simp)
  peers c _ := UnitRules.handOver (tableFits_units none) c
  own f _ := UnitRules.handOver (tableFits_units (some f)) _ (h.le (by simp))
  lost f j _ _ := h.le (by simp [State.ownCellAborted_table])
  settles t h := h.le (by simp)

theorem Event.tableFits (part : Event s t) (h : s.TableFits) : t.TableFits := by
  cases part with
  | reset => exact .empty rfl
  | fallsBack => exact .empty (by simp)
  | rejoin => exact .empty rfl
  | fails d strap => rcases s.strapFailed_cases d with ⟨-, is⟩ | ⟨-, is⟩ <;> rw [is] <;> exact h.le (by simp)
  | _ => exact h.le (by simp [State.report])

theorem step_tableFits (next : step s = .next t) (h : s.TableFits) : t.TableFits :=
  step_keeps (fun _ _ h => h) (fun _ _ part => part.tableFits) (fun _ j h => (tableFits_cell h).cellEnds j) next h

end Table

/-! ### The line store (R155) -/

section Store

variable {s t : State}

theorem storeRows_sublist {l m : List StoreEntry} (sub : l.Sublist m) : storeRows l ≤ storeRows m := sub.countP_le

theorem storeBytes_sublist {l m : List StoreEntry} (sub : l.Sublist m) : storeBytes l ≤ storeBytes m :=
  (sub.map _).sum_le_sum fun _ _ => Nat.zero_le _

@[simp] theorem storeRows_cons (e : StoreEntry) (l : List StoreEntry) :
    storeRows (e :: l) = storeRows l + if e.sort.isMarker then 0 else 1 := by
  cases marker : e.sort.isMarker <;> simp [storeRows, marker]

@[simp] theorem storeBytes_cons (e : StoreEntry) (l : List StoreEntry) :
    storeBytes (e :: l) = e.sort.packed.length + storeBytes l := by
  simp [storeBytes]

/-- The in-flight marks have no say in the store's figures. -/
theorem store_unmarked (l : List StoreEntry) :
    storeRows (l.map fun e => { e with inFlight := false }) = storeRows l ∧
    storeBytes (l.map fun e => { e with inFlight := false }) = storeBytes l := by
  constructor
  · simp [storeRows, List.countP_map, Function.comp_def]
  · simp [storeBytes, Function.comp_def]

theorem State.purge_store_sublist (s : State) (p : StoreEntry → Bool) : (s.purge p).store.Sublist s.store :=
  List.filter_sublist

theorem cutSlot_store (f : Word) (n : SlotNo) : (cutSlot f s n).store.Sublist s.store := by
  unfold cutSlot
  split
  · simpa using State.purge_store_sublist s _
  · exact .refl _

theorem State.cutFrame_store_sublist (s : State) (f : Word) (c : CloseCause) :
    (s.cutFrame f c).store.Sublist s.store := by
  cases c with
  | close =>
    exact State.forSlots_keeps (P := fun t => t.store.Sublist s.store) s (fun t n h => (cutSlot_store f n).trans h)
      (.refl _)
  | _ => exact .refl _

/-- A close takes entries out of the store, and puts none in. -/
theorem State.closeFrame_store_sublist (s : State) (c : CloseCause) : (s.closeFrame c).store.Sublist s.store := by
  rw [s.closeFrame_eq]
  have cut := s.openPlan.cutFrame_store_sublist s.frame.number c
  rw [s.openPlan_frames.2.1] at cut
  exact (State.purge_store_sublist _ _).trans cut

theorem State.completeTile_store_sublist (s : State) (k : TileKey) : (s.completeTile k).store.Sublist s.store := by
  rcases s.completeTile_cases k with ⟨-, is⟩ | ⟨-, ⟨-, is⟩ | ⟨-, is⟩⟩ <;> rw [is]
  · exact State.closeFrame_store_sublist _ .last

theorem State.applyBye_store_sublist (s : State) (i : Station) (own : Bool) :
    (s.applyBye i own).store.Sublist s.store := by
  obtain ⟨u, closes, is⟩ := s.applyBye_cases i own
  have sub : u.store.Sublist s.store := by
    rcases closes with rfl | ⟨-, rfl⟩
    · simp
    · simpa using (s.byeEffect i own).closeFrame_store_sublist .bye
  rw [is]
  split
  · simp
  · exact sub

/-- R94: an install keeps the rows of the installed frame's awaited tiles. -/
theorem State.install_store (s : State) (h : Header) (d : DumpBody) :
    (s.install h d).store = (s.installPlan h d).installLocal.store := by
  unfold State.install
  cases s.isMember <;> simp [State.forSlots_eq]

theorem State.install_store_sublist (s : State) (h : Header) (d : DumpBody) : (s.install h d).store.Sublist s.store := by
  rw [State.install_store]
  exact List.filter_sublist

/-- What the units make of a cell takes entries out of the store only. -/
theorem storeSublist_units {hd : Header} {p : Option (List Byte)} (own : Option Flight) (l : List StoreEntry) :
    UnitRules hd p own fun s => s.store.Sublist l where
  count s f h := h
  mutes s cause why _ _ _ := by simp
  hears s f _ h := by simpa using h
  records s f _ h := h
  queryTimer s _ _ h := h
  installs s p d _ _ _ h := (s.install_store_sublist hd d).trans h
  recording s t part _ h := by
    cases part <;> simpa using h
  suspects s why _ h := by simpa using h
  tile s _ _ h := (s.completeTile_store_sublist _).trans h
  claim s b _ _ h := by simpa using h
  release s b _ _ h := by simpa using h
  bye s _ _ h := (s.applyBye_store_sublist _ _).trans h
  close s _ _ h := (s.closeFrame_store_sublist .close).trans h
  asked s _ _ h := by simpa using h
  served s d _ _ h := by simpa using h

/-- At most 60 rows and 65,536 bytes. -/
def State.StoreFits (s : State) : Prop := storeRows s.store ≤ 60 ∧ storeBytes s.store ≤ 65536

theorem State.storeBounded_iff : s.storeBounded = true ↔ s.StoreFits := by
  simp [State.storeBounded, State.StoreFits]

theorem State.StoreFits.sublist (sub : t.store.Sublist s.store) (h : s.StoreFits) : t.StoreFits :=
  ⟨(storeRows_sublist sub).trans h.1, (storeBytes_sublist sub).trans h.2⟩

theorem State.StoreFits.same (same : t.store = s.store) (h : s.StoreFits) : t.StoreFits := h.sublist (same ▸ .refl _)

/-- A row joins the store when it takes it; an end marker counts for neither figure. -/
theorem State.StoreFits.append {e : StoreEntry}
    (takes : e.sort.isMarker = true ∨ storeTakes s.store e.sort.packed.length = true)
    (added : t.store = s.store ++ [e]) (h : s.StoreFits) : t.StoreFits := by
  have packed : e.sort.isMarker = true → e.sort.packed = [] := by
    cases e.sort <;> simp [StoreSort.isMarker, StoreSort.packed]
  obtain ⟨rows, bytes⟩ := h
  rw [State.StoreFits, added, storeRows_append, storeBytes_append]
  rcases takes with marker | takes
  · simp [storeRows, storeBytes, marker, packed marker] at rows bytes ⊢
    exact ⟨rows, bytes⟩
  · obtain ⟨fewRows, fits⟩ := (storeTakes_iff _ _).1 takes
    have : storeRows [e] ≤ 1 := List.countP_le_length
    have : storeBytes [e] = e.sort.packed.length := by simp [storeBytes]
    omega

theorem storeFits_cell (h : s.StoreFits) : CellRules s State.StoreFits State.StoreFits where
  stays := h
  linkIdle _ := h
  taken _ := h.same (by simp)
  heard j _ := h.same (by simp)
  peers c t h := h.sublist (UnitRules.handOver (storeSublist_units none t.store) c (.refl _))
  own f _ := by
    have left : (s.afterOwn f).store.Sublist s.store := by
      simp only [State.afterOwn]
      split
      · exact .refl _
      · exact List.drop_sublist 1 _
    exact (h.sublist left).sublist (UnitRules.handOver (storeSublist_units (some f) _) _ (.refl _))
  lost f j _ _ := by
    obtain ⟨rows, bytes⟩ := store_unmarked s.store
    have cleared : ((s.afterLost f j).marksCleared (f.report == .mismatched)).StoreFits := by
      simpa [State.StoreFits, State.marksCleared, rows, bytes] using h
    rcases (s.afterLost f j).ownCellAborted_cases f.source (f.report == .mismatched) with
      ⟨-, is⟩ | ⟨-, -, is⟩ | ⟨-, n, -, is⟩ | ⟨-, k, -, -, is⟩ <;> rw [is]
    · exact cleared.sublist (by simp)
    all_goals exact cleared.same (by simp)
  settles t h := h.same (by simp)

theorem State.StoreFits.endTile {n : SlotNo} {f : Word} {row : Nat} {sort : StoreSort} {missing : Nat}
    (takes : sort.isMarker = true ∨ storeTakes s.store sort.packed.length = true) (h : s.StoreFits) :
    (s.endTile n f row sort missing).StoreFits :=
  h.append (e := ⟨n, f, row, sort, false⟩) takes rfl

/-- R140, R156: a row joins the store only when it takes it. -/
theorem State.StoreFits.handleRow (n : SlotNo) (f : Word) (next missing rows : Nat) (row : Option (List Byte))
    (h : s.StoreFits) : (s.handleRow n f next missing rows row).StoreFits := by
  have missed (t : State) (same : t.store = s.store) : State.StoreFits (if next + 1 = rows then
      t.endTile n f (lastTileRow rows) (.endMarker (missing + 1)) (missing + 1)
      else t.setContext n (.capturing f (next + 1) (missing + 1))) := by
    split
    · exact (h.same same).endTile (.inl rfl)
    · exact h.same same
  unfold State.handleRow
  simp only []
  split
  · exact missed s rfl
  · next packed =>
    split
    · next takes =>
      split
      · exact h.endTile (.inr takes)
      · exact h.append (e := ⟨n, f, next, .row packed, false⟩) (.inr takes) rfl
    · exact missed s.dropLine rfl

theorem Event.storeFits (part : Event s t) (h : s.StoreFits) : t.StoreFits := by
  cases part with
  | reset => exact ⟨Nat.zero_le _, Nat.zero_le _⟩
  | fails d strap =>
    rcases s.strapFailed_cases d with ⟨-, is⟩ | ⟨-, is⟩ <;> rw [is]
    · exact h
    · exact h.sublist (by simp)
  | tile e rest selected first =>
    have started : (s.startTile e).store = { e with inFlight := true } :: rest := by
      simp [State.startTile, State.drive, first]
    obtain ⟨rows, bytes⟩ := h
    rw [first] at rows bytes
    rw [State.StoreFits, started]
    simpa using And.intro rows bytes
  | captureEnds n =>
    unfold endEarly
    split
    · exact h.endTile (.inl rfl)
    · exact h
  | line row pixels n =>
    unfold takeLine
    repeat' split
    all_goals first | exact h | exact h.handleRow _ _ _ _ _ _
  | rejoin => exact ⟨Nat.zero_le _, Nat.zero_le _⟩
  | _ => exact h.same (by simp [State.report])

theorem step_storeFits (next : step s = .next t) (h : s.StoreFits) : t.StoreFits :=
  step_keeps (fun _ _ h => h) (fun _ _ part => part.storeFits) (fun _ j h => (storeFits_cell h).cellEnds j) next h

end Store

/-! ### The sensor row counter (R133) -/

section Rows

variable {s t : State}

theorem rowCounter_units {hd : Header} {p : Option (List Byte)} (own : Option Flight) (n : Nat) :
    UnitRules hd p own fun s => s.capture.rowCounter = n where
  count s f h := h
  mutes s cause why _ _ h := by simpa using h
  hears s f _ h := by simpa using h
  records s f _ h := h
  queryTimer s _ _ h := h
  installs s p d _ _ _ h := by simpa using h
  recording s t part _ h := by
    cases part <;> simpa using h
  suspects s why _ h := by simpa using h
  tile s _ _ h := by simpa using h
  claim s b _ _ h := by simpa using h
  release s b _ _ h := by simpa using h
  bye s _ _ h := by
    obtain ⟨u, closes, is⟩ := s.applyBye_cases _ own.isSome
    have same : u.capture.rowCounter = n := by
      rcases closes with rfl | ⟨-, rfl⟩ <;> simpa using h
    rw [is]
    split <;> simpa using same
  close s _ _ h := by simpa using h
  asked s _ _ h := by simpa using h
  served s d _ _ h := by simpa using h

theorem rowCounter_cell (n : Nat) (h : s.capture.rowCounter = n) :
    CellRules s (fun s => s.capture.rowCounter = n) fun s => s.capture.rowCounter = n where
  stays := h
  linkIdle _ := h
  taken _ := by simpa using h
  heard j _ := by simpa using h
  peers c _ := UnitRules.handOver (rowCounter_units none n) c
  own f _ := UnitRules.handOver (rowCounter_units (some f) n) _ (by simpa using h)
  lost f j _ _ := by
    rcases (s.afterLost f j).ownCellAborted_cases f.source (f.report == .mismatched) with
      ⟨-, is⟩ | ⟨-, -, is⟩ | ⟨-, n, -, is⟩ | ⟨-, k, -, -, is⟩ <;> rw [is] <;> simpa using h
  settles t h := by simpa using h

theorem Event.rowsCounted (part : Event s t) (h : s.capture.rowCounter ≤ 4096) : t.capture.rowCounter ≤ 4096 := by
  cases part with
  | reset => exact Nat.zero_le _
  | fails d strap => rcases s.strapFailed_cases d with ⟨-, is⟩ | ⟨-, is⟩ <;> rw [is] <;> simpa using h
  | sensor inFrame row few => exact few.trans (max_le h le_rfl)
  | _ => simpa [State.report, State.clearPlan] using h

theorem step_rowsCounted (next : step s = .next t) (h : s.capture.rowCounter ≤ 4096) : t.capture.rowCounter ≤ 4096 :=
  step_keeps (P := fun s => s.capture.rowCounter ≤ 4096) (fun _ _ h => h) (fun _ _ part => part.rowsCounted)
    (fun _ j h => (((rowCounter_cell _ rfl).cellEnds j).trans_le h)) next h

end Rows

/-! ### The attempt counts and the strap result (R78, R117, R129, R178) -/

section Counts

variable {s t : State}

theorem State.recoveryLawful_iff :
    s.recoveryLawful = true ↔
      s.recovery.attempts ≤ 3 ∧ (s.membership.state ≠ .member → s.recovery.dumpPending = []) := by
  simp [State.recoveryLawful, or_iff_not_imp_left]

theorem State.recoveryLawful_congr (recovery : t.recovery.attempts = s.recovery.attempts)
    (asked : t.recovery.dumpPending = s.recovery.dumpPending) (state : t.membership.state = s.membership.state)
    (h : s.recoveryLawful = true) : t.recoveryLawful = true := by
  rw [State.recoveryLawful_iff] at h ⊢
  rw [recovery, asked, state]
  exact h

/-- The law holds of a state that no requester waits in. -/
theorem State.recoveryLawful_of_none (few : s.recovery.attempts ≤ 3) (none : s.recovery.dumpPending = []) :
    s.recoveryLawful = true := State.recoveryLawful_iff.2 ⟨few, fun _ => none⟩

/-- The law holds of a MEMBER whatever requesters wait. -/
theorem State.recoveryLawful_of_member (few : s.recovery.attempts ≤ 3) (member : s.membership.state = .member) :
    s.recoveryLawful = true := State.recoveryLawful_iff.2 ⟨few, fun other => absurd member other⟩

theorem State.recoveryLawful_applyBye (i : Station) (own : Bool) (h : s.recoveryLawful = true) :
    (s.applyBye i own).recoveryLawful = true := by
  obtain ⟨u, closes, is⟩ := s.applyBye_cases i own
  rw [is]
  split
  · exact State.recoveryLawful_of_none (by simp) (by simp)
  · rcases closes with rfl | ⟨-, rfl⟩ <;> exact State.recoveryLawful_congr (by simp) (by simp) (by simp) h

theorem recoveryLawful_units {hd : Header} {p : Option (List Byte)} (own : Option Flight) :
    UnitRules hd p own fun s => s.recoveryLawful = true where
  count s f h := h
  mutes s cause why _ _ h := State.recoveryLawful_of_none (by simpa using (State.recoveryLawful_iff.1 h).1) (by simp)
  hears s f listen h :=
    State.recoveryLawful_of_none (by simp) (by simpa using (State.recoveryLawful_iff.1 h).2 (by simp [listen]))
  records s f _ h := h
  queryTimer s _ _ h := h
  installs s p d _ _ _ h := State.recoveryLawful_of_member (by simp) (by simp)
  recording s t part _ h := by
    cases part <;> exact State.recoveryLawful_congr (by simp) (by simp) (by simp) h
  suspects s why _ h := State.recoveryLawful_of_none
    (by simp [State.enterSuspect, State.setState])
    (by simp [State.enterSuspect, State.setState, State.forSlots_eq])
  tile s _ _ h := by
    rcases s.completeTile_cases _ with ⟨-, is⟩ | ⟨-, ⟨-, is⟩ | ⟨-, is⟩⟩ <;> rw [is]
    · exact h
    · exact h
    · exact State.recoveryLawful_congr (by simp) (by simp) (by simp) h
  claim s b _ _ h := State.recoveryLawful_congr (by simp) (by simp) (by simp) h
  release s b _ _ h := State.recoveryLawful_congr (by simp) (by simp) (by simp) h
  bye s _ _ h := State.recoveryLawful_applyBye _ _ h
  close s _ _ h := State.recoveryLawful_congr (by simp) (by simp) (by simp) h
  asked s _ member h :=
    State.recoveryLawful_of_member (by simpa using (State.recoveryLawful_iff.1 h).1) (by simpa using member)
  served s d _ member h :=
    State.recoveryLawful_of_member (by simpa using (State.recoveryLawful_iff.1 h).1) (by simpa using member)

theorem recoveryLawful_cell (h : s.recoveryLawful = true) :
    CellRules s (fun s => s.recoveryLawful = true) fun s => s.recoveryLawful = true where
  stays := h
  linkIdle _ := h
  taken _ := State.recoveryLawful_congr (by simp) (by simp) (by simp) h
  heard j _ := State.recoveryLawful_congr (by simp) (by simp) (by simp) h
  peers c _ := UnitRules.handOver (recoveryLawful_units none) c
  own f _ := UnitRules.handOver (recoveryLawful_units (some f)) _
    (State.recoveryLawful_congr (by simp) (by simp) (by simp) h)
  lost f j _ _ := by
    rcases (s.afterLost f j).ownCellAborted_cases f.source (f.report == .mismatched) with
      ⟨-, is⟩ | ⟨-, -, is⟩ | ⟨-, n, -, is⟩ | ⟨-, k, -, -, is⟩ <;> rw [is]
    · exact State.recoveryLawful_of_none (by simpa using (State.recoveryLawful_iff.1 h).1) (by simp)
    all_goals exact State.recoveryLawful_congr (by simp) (by simp) (by simp) h
  settles t h := State.recoveryLawful_congr (by simp) (by simp) (by simp) h

theorem Event.recoveryLawful (part : Event s t) (h : s.recoveryLawful = true) : t.recoveryLawful = true := by
  have none (other : s.membership.state ≠ .member) : s.recovery.dumpPending = [] := (State.recoveryLawful_iff.1 h).2 other
  have few := (State.recoveryLawful_iff.1 h).1
  cases part with
  | reset => rfl
  | loads words strap => exact State.recoveryLawful_of_none (by simpa using few) (by simpa using none (by simp [strap]))
  | fails d strap =>
    rcases s.strapFailed_cases d with ⟨-, is⟩ | ⟨-, is⟩ <;> rw [is]
    · exact h
    · exact State.recoveryLawful_of_none (by simpa using few) (by simp)
  | founds listen => exact State.recoveryLawful_of_member (by simpa using few) (by simp)
  | queryRepeats running fewer =>
    rw [State.recoveryLawful_iff]
    simp only [State.enqueue_recovery, State.enqueue_membership]
    exact ⟨by omega, none⟩
  | selfTrusts => exact State.recoveryLawful_of_member (by simp) (by simp)
  | fallsBack => exact State.recoveryLawful_of_member (by simp) (by simp)
  | rejoin left => exact State.recoveryLawful_of_none (Nat.zero_le _) rfl
  | mismatch sending => exact h
  | matched sending => exact h
  | _ => exact State.recoveryLawful_congr (by simp) (by simp) (by simp) h

/-- R129: below four losses, or muted at four. -/
theorem State.attemptsLawful_iff :
    s.attemptsLawful = true ↔ s.ladder.attempts ≤ 4 ∧ (s.ladder.attempts = 4 → s.isMuted = true) := by
  simp only [State.attemptsLawful, Bool.and_eq_true, Bool.or_eq_true, decide_eq_true_eq]
  constructor
  · rintro ⟨few, fewer | muted⟩
    · exact ⟨few, fun four => by omega⟩
    · exact ⟨few, fun _ => muted⟩
  · rintro ⟨few, muted⟩
    by_cases four : s.ladder.attempts = 4
    · exact ⟨few, .inr (muted four)⟩
    · exact ⟨few, .inl (by omega)⟩

theorem State.attemptsLawful_of_few (few : s.ladder.attempts < 4) : s.attemptsLawful = true :=
  State.attemptsLawful_iff.2 ⟨few.le, fun four => absurd four few.ne⟩

theorem State.attemptsLawful_of_muted (few : s.ladder.attempts ≤ 4) (muted : s.isMuted = true) : s.attemptsLawful = true :=
  State.attemptsLawful_iff.2 ⟨few, fun _ => muted⟩

theorem State.isMuted_congr (state : t.membership.state = s.membership.state) : t.isMuted = s.isMuted := by
  simp [State.isMuted, state]

theorem State.attemptsLawful_congr (attempts : t.ladder.attempts = s.ladder.attempts)
    (state : t.membership.state = s.membership.state) (h : s.attemptsLawful = true) : t.attemptsLawful = true := by
  rw [State.attemptsLawful_iff, attempts, State.isMuted_congr state]
  exact State.attemptsLawful_iff.1 h

/-- A station that is not muted has lost its cell three times at most. -/
theorem State.attempts_few (h : s.attemptsLawful = true) (unmuted : s.isMuted = false) : s.ladder.attempts < 4 := by
  obtain ⟨few, muted⟩ := State.attemptsLawful_iff.1 h
  by_contra many
  simp [muted (by omega)] at unmuted

/-- R128: what follows a state that is not muted keeps the count, or starts it at 0. -/
theorem State.attemptsLawful_of_unmuted (unmuted : s.isMuted = false) (kept : t.ladder.attempts = s.ladder.attempts)
    (h : s.attemptsLawful = true) : t.attemptsLawful = true :=
  State.attemptsLawful_of_few (kept ▸ State.attempts_few h unmuted)

theorem State.unmuted_of_inPlan (inPlan : s.membership.state.inPlan = true) : s.isMuted = false := by
  rcases inPlan_iff.1 inPlan with is | is <;> simp [State.isMuted, is]

theorem State.attemptsLawful_settleAttempts (h : s.attemptsLawful = true) : s.settleAttempts.attemptsLawful = true := by
  rcases s.settleAttempts_cases with is | ⟨-, -, is⟩ <;> rw [is]
  · exact h
  · exact State.attemptsLawful_of_few (by simp [State.setAttempts])

theorem State.attemptsLawful_enterMuted (c : MuteCause) (w : StateCause) (h : s.ladder.attempts ≤ 4) :
    (s.enterMuted c w).attemptsLawful = true :=
  State.attemptsLawful_of_muted (by simpa using h) (by simp [State.isMuted])

theorem attemptsLawful_units {hd : Header} {p : Option (List Byte)} (own : Option Flight) :
    UnitRules hd p own fun s => s.attemptsLawful = true where
  count s f h := h
  mutes s cause why _ _ h := State.attemptsLawful_enterMuted cause why (State.attemptsLawful_iff.1 h).1
  hears s f listen := State.attemptsLawful_of_unmuted (by simp [State.isMuted, listen]) (by simp)
  records s f _ h := h
  queryTimer s _ _ h := h
  installs s p d _ _ inPlan := by
    refine State.attemptsLawful_of_unmuted ?_ (by simp)
    rcases inPlan with syncing | inPlan
    · simp [State.isMuted, syncing]
    · exact State.unmuted_of_inPlan inPlan
  recording s t part _ h := by cases part <;> exact State.attemptsLawful_congr (by simp) (by simp) h
  suspects s why member := State.attemptsLawful_of_unmuted (by simp [State.isMuted, member]) (by simp)
  tile s _ inPlan h := State.attemptsLawful_of_unmuted (State.unmuted_of_inPlan inPlan) (by simp) h
  claim s b _ inPlan h := State.attemptsLawful_of_unmuted (State.unmuted_of_inPlan inPlan) (by simp) h
  release s b _ inPlan h := State.attemptsLawful_of_unmuted (State.unmuted_of_inPlan inPlan) (by simp) h
  bye s _ inPlan h := by
    have few := State.attempts_few h (State.unmuted_of_inPlan inPlan)
    obtain ⟨u, closes, is⟩ := s.applyBye_cases _ own.isSome
    rw [is]
    split
    · exact State.attemptsLawful_of_few (by simp [State.enterLeft, State.clearPlan, State.setState])
    · exact State.attemptsLawful_of_few (by rcases closes with rfl | ⟨-, rfl⟩ <;> simpa using few)
  close s _ inPlan h := State.attemptsLawful_of_unmuted (State.unmuted_of_inPlan inPlan) (by simp) h
  asked s _ member h := State.attemptsLawful_of_unmuted (s := s) (by simp [State.isMuted, member]) (by simp) h
  served s d _ member h := State.attemptsLawful_of_unmuted (s := s) (by simp [State.isMuted, member]) (by simp) h

theorem State.unmuted_of_sends (sends : s.membership.state.silent = false) : s.isMuted = false := by
  generalize is : s.membership.state = st at sends
  cases st <;> simp_all [State.isMuted, StationState.silent]

theorem attemptsLawful_cell (silent : s.silentEmpty = true) (h : s.attemptsLawful = true) :
    CellRules s (fun s => s.attemptsLawful = true) fun s => s.attemptsLawful = true where
  stays := h
  linkIdle _ := h
  taken _ := State.attemptsLawful_congr (by simp) (by simp) h
  heard j _ := State.attemptsLawful_congr (by simp) (by simp) h
  peers c _ := UnitRules.handOver (attemptsLawful_units none) c
  own f _ := UnitRules.handOver (attemptsLawful_units (some f)) _ (State.attemptsLawful_of_few (by simp))
  lost f j flight _ := by
    have few := State.attempts_few h (State.unmuted_of_sends (State.sends_of_flight flight silent))
    rcases (s.afterLost f j).ownCellAborted_cases f.source (f.report == .mismatched) with
      ⟨-, is⟩ | ⟨fewer, -, is⟩ | ⟨fewer, n, -, is⟩ | ⟨fewer, k, -, -, is⟩ <;> rw [is]
    · exact State.attemptsLawful_enterMuted _ _ (by simp [State.marksCleared]; omega)
    all_goals exact State.attemptsLawful_of_few (by simp [State.marksCleared] at fewer ⊢; omega)
  settles t := State.attemptsLawful_settleAttempts

theorem State.attemptsLawful_slotOff (n : SlotNo) (h : s.attemptsLawful = true) : (s.slotOff n).attemptsLawful = true := by
  unfold State.slotOff
  simp only []
  split
  · exact h
  · exact h
  · exact h
  · split
    · exact h
    · exact State.attemptsLawful_settleAttempts (State.attemptsLawful_congr (by simp) (by simp) h)
  · split
    · exact State.attemptsLawful_congr (by simp) (by simp) h
    · exact h
  · exact h

theorem Event.attemptsLawful (part : Event s t) (h : s.attemptsLawful = true) : t.attemptsLawful = true := by
  cases part with
  | reset => rfl
  | loads words strap => exact State.attemptsLawful_of_unmuted (by simp [State.isMuted, strap]) (by simp) h
  | fails d strap =>
    rcases s.strapFailed_cases d with ⟨-, is⟩ | ⟨-, is⟩ <;> rw [is]
    · exact h
    · exact State.attemptsLawful_of_muted (by simpa using (State.attemptsLawful_iff.1 h).1) (by simp [State.isMuted])
  | founds listen => exact State.attemptsLawful_of_unmuted (by simp [State.isMuted, listen]) (by simp) h
  | selfTrusts suspect => exact State.attemptsLawful_of_unmuted (by simp [State.isMuted, suspect]) (by simp) h
  | fallsBack syncing => exact State.attemptsLawful_of_unmuted (by simp [State.isMuted, syncing]) (by simp) h
  | rejoin left => exact State.attemptsLawful_of_few (Nat.zero_lt_succ 3)
  | mismatch sending => exact h
  | matched sending => exact h
  | settles => exact State.attemptsLawful_settleAttempts h
  | slotOff n allows => exact State.attemptsLawful_slotOff n h
  | _ => exact State.attemptsLawful_congr (by simp) (by simp) h

theorem State.strapResultLawful_iff :
    s.strapResultLawful = true ↔ s.strap.failed ≤ 2 ∧ (s.membership.state = .strap → s.strap.failed ≤ 1) := by
  simp [State.strapResultLawful, imp_iff_not_or]

theorem State.strapResultLawful_congr (strap : t.strap.failed = s.strap.failed)
    (state : t.membership.state = s.membership.state) (h : s.strapResultLawful = true) : t.strapResultLawful = true := by
  rw [State.strapResultLawful_iff, strap, state]
  exact State.strapResultLawful_iff.1 h

/-- What leaves STRAP, or is past it, keeps the result of the load. -/
theorem State.strapResultLawful_past (strap : t.strap.failed = s.strap.failed) (past : t.membership.state ≠ .strap)
    (h : s.strapResultLawful = true) : t.strapResultLawful = true :=
  State.strapResultLawful_iff.2 ⟨strap ▸ (State.strapResultLawful_iff.1 h).1, fun is => absurd is past⟩

theorem strapResultLawful_units {hd : Header} {p : Option (List Byte)} (own : Option Flight) :
    UnitRules hd p own fun s => s.strapResultLawful = true where
  count s f h := h
  mutes s cause why _ _ := State.strapResultLawful_past (by simp) (by simp)
  hears s f listen := State.strapResultLawful_past (by simp) (by simp)
  records s f _ h := h
  queryTimer s _ _ h := h
  installs s p d _ _ _ := State.strapResultLawful_past (by simp) (by simp)
  recording s t part _ h := by cases part <;> exact State.strapResultLawful_congr (by simp) (by simp) h
  suspects s why _ := State.strapResultLawful_past (by simp) (by simp)
  tile s _ _ h := by
    rcases s.completeTile_cases _ with ⟨-, is⟩ | ⟨-, ⟨-, is⟩ | ⟨-, is⟩⟩ <;> rw [is]
    · exact h
    · exact h
    · exact State.strapResultLawful_congr (by simp) (by simp) h
  claim s b _ _ := State.strapResultLawful_congr (by simp) (by simp)
  release s b _ _ := State.strapResultLawful_congr (by simp) (by simp)
  bye s _ _ h := by
    obtain ⟨u, closes, is⟩ := s.applyBye_cases _ own.isSome
    rw [is]
    have strap : u.strap.failed = s.strap.failed := by rcases closes with rfl | ⟨-, rfl⟩ <;> simp
    have state : u.membership.state = s.membership.state := by rcases closes with rfl | ⟨-, rfl⟩ <;> simp
    split
    · exact State.strapResultLawful_past (by simpa using strap) (by simp) h
    · exact State.strapResultLawful_congr strap state h
  close s _ _ := State.strapResultLawful_congr (by simp) (by simp)
  asked s _ _ := State.strapResultLawful_congr (by simp) (by simp)
  served s d _ _ := State.strapResultLawful_congr (by simp) (by simp)

theorem strapResultLawful_cell (h : s.strapResultLawful = true) :
    CellRules s (fun s => s.strapResultLawful = true) fun s => s.strapResultLawful = true where
  stays := h
  linkIdle _ := h
  taken _ := State.strapResultLawful_congr (by simp) (by simp) h
  heard j _ := State.strapResultLawful_congr (by simp) (by simp) h
  peers c _ := UnitRules.handOver (strapResultLawful_units none) c
  own f _ := UnitRules.handOver (strapResultLawful_units (some f)) _ (State.strapResultLawful_congr (by simp) (by simp) h)
  lost f j _ _ := by
    rcases (s.afterLost f j).ownCellAborted_cases f.source (f.report == .mismatched) with
      ⟨-, is⟩ | ⟨-, -, is⟩ | ⟨-, n, -, is⟩ | ⟨-, k, -, -, is⟩ <;> rw [is]
    · exact State.strapResultLawful_past (by simp) (by simp) h
    all_goals exact State.strapResultLawful_congr (by simp) (by simp) h
  settles t := State.strapResultLawful_congr (by simp) (by simp)

theorem Event.strapResultLawful (part : Event s t) (h : s.strapResultLawful = true) : t.strapResultLawful = true := by
  cases part with
  | reset => rfl
  | loads words strap => exact State.strapResultLawful_past (by simp) (by simp) h
  | fails d strap =>
    have few := (State.strapResultLawful_iff.1 h).2 strap
    rcases s.strapFailed_cases d with ⟨first, is⟩ | ⟨second, is⟩ <;> rw [is]
    · exact State.strapResultLawful_iff.2 ⟨by simp [first], fun _ => by simp [first]⟩
    · exact State.strapResultLawful_iff.2 ⟨by simp; omega, fun is => by simp at is⟩
  | founds listen => exact State.strapResultLawful_past (by simp) (by simp) h
  | selfTrusts suspect => exact State.strapResultLawful_past (by simp) (by simp) h
  | fallsBack syncing => exact State.strapResultLawful_past (by simp) (by simp) h
  | rejoin left => exact State.strapResultLawful_past (by simp) (by simp [State.startSilence, State.setState]) h
  | mismatch sending => exact h
  | matched sending => exact h
  | _ => exact State.strapResultLawful_congr (by simp) (by simp) h

end Counts

/-! ### O54 -/

section Limits

variable {s t : State}

theorem State.fewNotices_iff : s.FewNotices ↔ s.noticesBounded = true := by
  simp [State.FewNotices, State.noticesBounded]

theorem State.tableFits_iff : s.TableFits ↔ s.tableBounded = true := by
  simp [State.TableFits, State.tableBounded]

/-- The laws of a count hold with the silence laws that its proof uses. -/
theorem step_countsLawful (timers : s.timersLawful = true) (silent : s.silentEmpty = true) (next : step s = .next t) :
    (s.recoveryLawful = true → t.recoveryLawful = true) ∧ (s.attemptsLawful = true → t.attemptsLawful = true) ∧
    (s.strapResultLawful = true → t.strapResultLawful = true) := by
  refine ⟨fun h => ?_, fun h => ?_, fun h => ?_⟩
  · exact step_keeps (fun _ _ h => h) (fun _ _ part => part.recoveryLawful)
      (fun _ j h => (recoveryLawful_cell h).cellEnds j) next h
  · have kept : (t.timersLawful = true ∧ t.silentEmpty = true) ∧ t.attemptsLawful = true :=
      step_keeps (P := fun s => (s.timersLawful = true ∧ s.silentEmpty = true) ∧ s.attemptsLawful = true)
        (fun _ _ h => h)
        (fun _ _ part h => ⟨⟨part.timersLawful h.1.1, part.silentEmpty h.1.1 h.1.2⟩, part.attemptsLawful h.2⟩)
        (fun _ j h => ⟨⟨(timersLawful_cell h.1.1).cellEnds j, (silentEmpty_cell h.1.2).cellEnds j⟩,
          (attemptsLawful_cell h.1.2 h.2).cellEnds j⟩)
        next ⟨⟨timers, silent⟩, h⟩
    exact kept.2
  · exact step_keeps (fun _ _ h => h) (fun _ _ part => part.strapResultLawful)
      (fun _ j h => (strapResultLawful_cell h).cellEnds j) next h

/-- Settles O54: each bound is kept by every part of a command (`Event`), by every rule of the units and by the cell's
end around them. -/
theorem everyStepKeepsTheLimits : Obligations.EveryStepKeepsTheLimits := by
  unfold Obligations.EveryStepKeepsTheLimits
  refine ⟨fun s t next => ⟨fun h => ?_, fun h => ?_, fun h => ?_, fun h => ?_⟩, fun s t timers silent next =>
    step_countsLawful timers silent next⟩
  · exact State.fewNotices_iff.1 (step_fewNotices next (State.fewNotices_iff.2 h))
  · exact State.tableFits_iff.1 (step_tableFits next (State.tableFits_iff.2 h))
  · exact State.storeBounded_iff.2 (step_storeFits next (State.storeBounded_iff.1 h))
  · exact decide_eq_true (step_rowsCounted next (of_decide_eq_true h))

end Limits

end Sys2Proof.Machine
end

section
set_option Elab.async false
/-! The control queue: what the units and the other commands make of it, as edits, and the laws of its places (R162) and
of its in-flight marks (R161, R164, R166). -/

namespace Sys2Proof.Machine

open Relation (ReflTransGen)

/-! ### Edits of the queue -/

/-- One edit of the control queue: a cell of a kind in `A` joins in a free place, cells that are not on the link leave, or
given numbers are returned. -/
inductive QueueEdit (A : QueueKind → Prop) (q : List QueuedCell) : List QueuedCell → Prop
  | join (k : QueueKind) (allowed : A k) (free : ∀ c ∈ q, c.kind.place ≠ k.place) :
      QueueEdit A q (q ++ [⟨k, none, false⟩])
  | leave {r : List QueuedCell} (sub : r.Sublist q) (marked : ∀ c ∈ q, c.inFlight = true → c ∈ r) : QueueEdit A q r
  | unnumber (p : QueuedCell → Bool) : QueueEdit A q (q.map fun c => if p c then { c with given := none } else c)

abbrev QueueEdits (A : QueueKind → Prop) : List QueuedCell → List QueuedCell → Prop := ReflTransGen (QueueEdit A)

/-- The kinds of every cell. -/
def anyKind : QueueKind → Prop := fun _ => True

/-- The kinds of every cell but a QUERY. -/
def notQuery : QueueKind → Prop := fun k => k ≠ .query

/-- R162: one cell in each of the nine places. -/
def onePerPlace (q : List QueuedCell) : Prop := (q.map fun c => c.kind.place).Nodup

/-- No cell is on the link. -/
def unmarked (q : List QueuedCell) : Prop := ∀ c ∈ q, c.inFlight = false

/-- R166: a cell of kind `k` is on the link, and no cell of another kind. -/
def onlyMarked (k : QueueKind) (q : List QueuedCell) : Prop :=
  (∃ c ∈ q, c.kind = k ∧ c.inFlight = true) ∧ ∀ c ∈ q, c.inFlight = true → c.kind = k

/-- Every queued cell is of a kind in `A`. -/
def kindsIn (A : QueueKind → Prop) (q : List QueuedCell) : Prop := ∀ c ∈ q, A c.kind

/-- R165: only the first cell can hold a given number. -/
def onlyFirstGiven (q : List QueuedCell) : Prop := ∀ c ∈ q.drop 1, c.given = none

section Edits

variable {A : QueueKind → Prop} {q r : List QueuedCell}

/-- What an edit makes of a cell's number leaves its kind and its mark. -/
theorem unnumber_same (b : Bool) (c : QueuedCell) :
    (if b then { c with given := none } else c).kind = c.kind ∧
    (if b then { c with given := none } else c).inFlight = c.inFlight ∧
    (c.given = none → (if b then { c with given := none } else c).given = none) := by
  cases b <;> simp

theorem QueueEdit.onePerPlace (edit : QueueEdit A q r) (h : onePerPlace q) : Machine.onePerPlace r := by
  cases edit with
  | join k _ free =>
    simp only [Machine.onePerPlace, List.map_append, List.map_cons, List.map_nil]
    exact List.Nodup.append h (List.nodup_singleton _) (by simpa using free)
  | leave sub => exact h.sublist (sub.map _)
  | unnumber p =>
    have same : (fun c : QueuedCell => (if p c then { c with given := none } else c).kind.place) =
        fun c => c.kind.place := by funext c; rw [(unnumber_same (p c) c).1]
    simpa only [Machine.onePerPlace, List.map_map, Function.comp_def, same] using h

/-- What holds of a joining cell, and of a cell without its number when it holds of the cell, an edit keeps. -/
theorem QueueEdit.all {F : QueuedCell → Prop} (edit : QueueEdit A q r) (joins : ∀ k, A k → F ⟨k, none, false⟩)
    (unnumbered : ∀ c, F c → F { c with given := none }) (h : ∀ c ∈ q, F c) : ∀ c ∈ r, F c := by
  cases edit with
  | join k allowed =>
    intro c mem
    rcases List.mem_append.1 mem with mem | mem
    · exact h c mem
    · rw [List.mem_singleton.1 mem]; exact joins k allowed
  | leave sub => exact fun c mem => h c (sub.subset mem)
  | unnumber p =>
    intro c mem
    obtain ⟨d, member, rfl⟩ := List.mem_map.1 mem
    split
    · exact unnumbered d (h d member)
    · exact h d member

theorem QueueEdit.onlyMarked {k : QueueKind} (edit : QueueEdit A q r) (h : onlyMarked k q) : Machine.onlyMarked k r := by
  obtain ⟨⟨c, mem, kind, marked⟩, others⟩ := h
  cases edit with
  | join k' =>
    refine ⟨⟨c, List.mem_append_left _ mem, kind, marked⟩, fun d mem flies => ?_⟩
    rcases List.mem_append.1 mem with mem | mem
    · exact others d mem flies
    · rw [List.mem_singleton.1 mem] at flies
      cases flies
  | leave sub stays => exact ⟨⟨c, stays c mem marked, kind, marked⟩, fun d mem flies => others d (sub.subset mem) flies⟩
  | unnumber p =>
    obtain ⟨sameKind, sameMark, -⟩ := unnumber_same (p c) c
    refine ⟨⟨_, List.mem_map.2 ⟨c, mem, rfl⟩, sameKind.trans kind, sameMark.trans marked⟩, fun d mem flies => ?_⟩
    obtain ⟨e, member, rfl⟩ := List.mem_map.1 mem
    obtain ⟨sameKind, sameMark, -⟩ := unnumber_same (p e) e
    exact sameKind.trans (others e member (sameMark ▸ flies))

theorem QueueEdit.onlyFirstGiven (edit : QueueEdit A q r) (h : onlyFirstGiven q) : Machine.onlyFirstGiven r := by
  cases edit with
  | join k =>
    intro c mem
    cases q with
    | nil => simp at mem
    | cons a rest =>
      rcases List.mem_append.1 mem with mem | mem
      · exact h c mem
      · rw [List.mem_singleton.1 mem]
  | leave sub =>
    intro c mem
    exact h c ((sub.drop 1).subset mem)
  | unnumber p =>
    intro c mem
    rw [← List.map_drop] at mem
    obtain ⟨d, member, rfl⟩ := List.mem_map.1 mem
    exact (unnumber_same (p d) d).2.2 (h d member)

namespace QueueEdits

theorem onePerPlace (edits : QueueEdits A q r) (h : Machine.onePerPlace q) : Machine.onePerPlace r := by
  induction edits with
  | refl => exact h
  | tail _ edit ih => exact edit.onePerPlace ih

theorem all {F : QueuedCell → Prop} (edits : QueueEdits A q r) (joins : ∀ k, A k → F ⟨k, none, false⟩)
    (unnumbered : ∀ c, F c → F { c with given := none }) (h : ∀ c ∈ q, F c) : ∀ c ∈ r, F c := by
  induction edits with
  | refl => exact h
  | tail _ edit ih => exact edit.all joins unnumbered ih

theorem unmarked (edits : QueueEdits A q r) (h : Machine.unmarked q) : Machine.unmarked r :=
  edits.all (fun _ _ => rfl) (fun _ h => h) h

theorem onlyMarked {k : QueueKind} (edits : QueueEdits A q r) (h : Machine.onlyMarked k q) : Machine.onlyMarked k r := by
  induction edits with
  | refl => exact h
  | tail _ edit ih => exact edit.onlyMarked ih

theorem kindsIn {B : QueueKind → Prop} (edits : QueueEdits A q r) (le : ∀ k, A k → B k) (h : Machine.kindsIn B q) :
    Machine.kindsIn B r := edits.all le (fun _ h => h) h

theorem onlyFirstGiven (edits : QueueEdits A q r) (h : Machine.onlyFirstGiven q) : Machine.onlyFirstGiven r := by
  induction edits with
  | refl => exact h
  | tail _ edit ih => exact edit.onlyFirstGiven ih

theorem of_eq (same : r = q) : QueueEdits A q r := same ▸ .refl

theorem any (edits : QueueEdits A q r) : QueueEdits anyKind q r := by
  refine ReflTransGen.mono (fun _ _ edit => ?_) _ _ edits
  cases edit with
  | join k _ free => exact .join k trivial free
  | leave sub marked => exact .leave sub marked
  | unnumber p => exact .unnumber p

end QueueEdits

end Edits

/-! ### The operations as edits -/

section Operations

variable {s : State} {A : QueueKind → Prop} {q : List QueuedCell}

/-- The kinds that slots and entries queue at a MEMBER. -/
def plansIn (A : QueueKind → Prop) (member : Bool) : Prop :=
  member = true → A .hello ∧ ∀ n, A (.claim n) ∧ A (.release n)

theorem plansIn_any (b : Bool) : plansIn anyKind b := fun _ => ⟨trivial, fun _ => ⟨trivial, trivial⟩⟩

theorem QueueEdits.enqueue (k : QueueKind) (allowed : A k) (h : QueueEdits A q s.queue) :
    QueueEdits A q (s.enqueue k).queue := by
  rw [s.enqueue_queue k]
  split
  · exact h
  · next free => exact h.tail (.join k allowed (by simpa [State.queues] using free))

theorem QueueEdits.withdraw (p : QueueKind → Bool) (h : QueueEdits A q s.queue) :
    QueueEdits A q (s.withdraw p).queue := by
  rw [s.withdraw_queue p]
  exact h.tail (.leave List.filter_sublist fun c mem flies => by simp [mem, flies])

/-- What the service of one slot edits, the service of the four edits. -/
theorem QueueEdits.forSlots {f : State → SlotNo → State} {P : State → Prop}
    (part : ∀ t n, P t → QueueEdits A t.queue (f t n).queue ∧ P (f t n)) (start : P s) (h : QueueEdits A q s.queue) :
    QueueEdits A q (s.forSlots f).queue :=
  (State.forSlots_keeps (P := fun t => QueueEdits A q t.queue ∧ P t) s
    (fun t n ⟨edits, kept⟩ => ⟨edits.trans (part t n kept).1, (part t n kept).2⟩) ⟨h, start⟩).1

theorem QueueEdits.claimIfReady (n : SlotNo) (plans : plansIn A s.isMember) (h : QueueEdits A q s.queue) :
    QueueEdits A q (s.claimIfReady n).queue := by
  unfold State.claimIfReady
  split
  · next ready =>
    simp only [Bool.and_eq_true] at ready
    exact .enqueue (s := s.setSlotState n .proposed) _ ((plans ready.1.2).2 n).1 h
  · exact h

theorem QueueEdits.serveClaims (plans : plansIn A s.isMember) (h : QueueEdits A q s.queue) :
    QueueEdits A q s.serveClaims.queue :=
  h.forSlots (P := fun t => plansIn A t.isMember)
    (fun t n plans => ⟨QueueEdits.claimIfReady n plans .refl, by simpa [State.isMember] using plans⟩) plans

theorem QueueEdits.serveReleases (plans : plansIn A s.isMember) (h : QueueEdits A q s.queue) :
    QueueEdits A q s.serveReleases.queue := by
  refine h.forSlots (P := fun t => plansIn A t.isMember) (fun t n plans => ⟨?_, by simpa [State.isMember] using plans⟩) plans
  unfold State.releaseIfDue
  split
  · next due =>
    simp only [Bool.and_eq_true] at due
    exact .enqueue _ ((plans due.1.2).2 n).2 .refl
  · exact .refl

theorem QueueEdits.memberCells (hello : A .hello) (plans : plansIn A s.isMember) (h : QueueEdits A q s.queue) :
    QueueEdits A q s.memberCells.queue := by
  have started : QueueEdits A q (s.enqueue .hello).startOnSlots.queue := by simpa using h.enqueue .hello hello
  have plans1 : plansIn A (s.enqueue .hello).startOnSlots.isMember := by simpa [State.isMember] using plans
  exact (started.serveClaims plans1).serveReleases (by simpa [State.isMember] using plans1)

theorem QueueEdits.claimAccepted (n : SlotNo) (allowed : A (.release n)) (h : QueueEdits A q s.queue) :
    QueueEdits A q (s.claimAccepted n).queue := by
  unfold State.claimAccepted
  split
  · rw [State.deposit_queue]
    exact .enqueue (s := s.setSlot n _) _ allowed h
  · simpa using h

theorem QueueEdits.claimRefused (n : SlotNo) (why : ClaimRefusal) (plans : plansIn A s.isMember)
    (h : QueueEdits A q s.queue) : QueueEdits A q (s.claimRefused n why).queue := by
  have served {t : State} (same : t.queue = s.queue) (member : t.isMember = s.isMember) :
      QueueEdits A q t.serveClaims.queue := QueueEdits.serveClaims (member ▸ plans) (same ▸ h)
  unfold State.claimRefused
  cases why
  case full => simpa using h
  case overlap => simpa using h
  all_goals exact served (by simp) (by simp [State.isMember])

/-- R21: only the own CLAIM, accepted with its off-after mark set, queues a RELEASE. -/
theorem QueueEdits.applyClaim (i : Station) (b : ClaimBody) (c : Option Crop) (plans : plansIn A s.isMember)
    (accepts : c.isSome = true → ∀ n, A (.release n)) (h : QueueEdits A q s.queue) :
    QueueEdits A q (s.applyClaim i b c).queue := by
  unfold State.applyClaim
  simp only []
  split
  · split
    · next own => exact .claimAccepted (s := { s with claims := _ }) _ (accepts own _) h
    · exact h
  · split
    · exact h.claimRefused _ _ plans
    · exact h

theorem QueueEdits.openTable (plans : plansIn A s.isMember) (h : QueueEdits A q s.queue) :
    QueueEdits A q s.openTable.queue := by
  have passed (t : State) (mark : Bool) (removed : List Entry) :
      (t.forSlots (slotPass mark removed)).queue = t.queue ∧
      (t.forSlots (slotPass mark removed)).membership = t.membership :=
    ⟨t.forSlots_reads State.queue fun t n => by simp, t.forSlots_reads State.membership fun t n => by simp⟩
  unfold State.openTable
  refine QueueEdits.serveClaims ?_ (QueueEdits.serveReleases ?_ ?_)
  · simpa [State.isMember, passed] using plans
  · simpa [State.isMember, passed] using plans
  · simpa [passed] using h

theorem QueueEdits.openFrame (h : QueueEdits A q s.queue) : QueueEdits A q s.openFrame.queue := by
  rw [State.openFrame, State.withdraw_queue]
  simpa only [State.withdraw_queue] using h.withdraw fun k => k == QueueKind.close s.frame.number

theorem QueueEdits.scheduleHello (plans : plansIn A s.isMember) (h : QueueEdits A q s.queue) :
    QueueEdits A q s.scheduleHello.queue := by
  unfold State.scheduleHello
  split
  · next due =>
    simp only [State.helloScheduled, Bool.and_eq_true] at due
    exact (h.enqueue .hello (plans due.1).1).serveClaims (by simpa [State.isMember] using plans)
  · exact h

theorem QueueEdits.closeFrame (c : CloseCause) (plans : plansIn A s.isMember) (h : QueueEdits A q s.queue) :
    QueueEdits A q (s.closeFrame c).queue := by
  rw [s.closeFrame_eq]
  have opened : QueueEdits A q s.openPlan.queue :=
    (h.openTable plans).openFrame.scheduleHello (by simpa [State.isMember] using plans)
  simpa using opened

theorem QueueEdits.completeTile (k : TileKey) (plans : plansIn A s.isMember) (h : QueueEdits A q s.queue) :
    QueueEdits A q (s.completeTile k).queue := by
  rcases s.completeTile_cases k with ⟨-, is⟩ | ⟨-, ⟨-, is⟩ | ⟨-, is⟩⟩ <;> rw [is]
  · exact h
  · exact h
  · exact .closeFrame (s := { s with frame := _ }) .last plans h

/-- R91, R95, R96, R65: an install withdraws a QUERY, a reinstall the plan's cells too, and then queues the cells of an
entry into MEMBER. -/
theorem State.install_edits (s : State) (hd : Header) (d : DumpBody) (hello : A .hello) (plans : plansIn A true) :
    QueueEdits A (s.withdraw fun k => k == .query || (s.isMember && k.isPlan)).queue (s.install hd d).queue := by
  have derived : (((s.installPlan hd d).installLocal).forSlots State.rederiveSlot).queue = s.queue := by
    simp [State.forSlots_eq]
  unfold State.install
  simp only [State.count_queue, State.deposit_queue]
  generalize ((s.installPlan hd d).installLocal).forSlots State.rederiveSlot = t at derived
  have withdrawn : (State.setState (t.withdraw fun k => k == .query || (s.isMember && k.isPlan)) .member).queue =
      (s.withdraw fun k => k == .query || (s.isMember && k.isPlan)).queue := by
    simp only [State.setState_queue, State.withdraw_queue, derived]
  have entered := QueueEdits.memberCells hello (fun _ => plans rfl) (QueueEdits.of_eq withdrawn)
  split
  · exact entered
  · rwa [State.deposit_queue]

theorem QueueEdits.install (hd : Header) (d : DumpBody) (hello : A .hello) (plans : plansIn A true)
    (h : QueueEdits A q s.queue) : QueueEdits A q (s.install hd d).queue :=
  (h.withdraw _).trans (s.install_edits hd d hello plans)

theorem QueueEdits.requestersServed (d : DumpBody) (h : QueueEdits A q s.queue) :
    QueueEdits A q (s.requestersServed d).queue := by
  unfold State.requestersServed
  simp only []
  split
  · exact .withdraw (s := { s with recovery := _ }) _ h
  · exact h

theorem State.enterSuspect_queue (s : State) (why : StateCause) :
    (s.enterSuspect why).queue = (s.planWithdrawn.enqueue .query).queue := by
  have same : (s.planWithdrawn.forSlots State.suspectSlot).queue = s.planWithdrawn.queue := by simp [State.forSlots_eq]
  rw [s.enterSuspect_eq why, State.deposit_queue, State.setState_queue]
  simp only [State.enqueue_queue, State.queues, same]
  rfl

theorem QueueEdits.enterSuspect (why : StateCause) (query : A .query) (h : QueueEdits A q s.queue) :
    QueueEdits A q (s.enterSuspect why).queue := by
  rw [s.enterSuspect_queue why]
  exact .enqueue (s := s.planWithdrawn) .query query ((h.withdraw _).tail (.unnumber fun c => c.kind == .bye))

theorem QueueEdits.hears (f : Word) (query : A .query) (h : QueueEdits A q s.queue) :
    QueueEdits A q (s.hears f).queue := by
  simpa [State.hears] using QueueEdits.enqueue (s := (s.setSilence .stopped).recordFrame f) .query query h

theorem QueueEdits.answerQuery (i : Station) (dump : A .dump) (h : QueueEdits A q s.queue) :
    QueueEdits A q (s.answerQuery i).queue := QueueEdits.enqueue (s := { s with recovery := _ }) .dump dump h

/-- R13, R73: what a BYE leaves of the queue, short of the own one's LEFT. -/
theorem QueueEdits.byeEffect {u : State} (i : Station) (own : Bool) (plans : plansIn A s.isMember)
    (is : u = s.byeEffect i own ∨
      (s.byeEffect i own).frame.outstanding = [] ∧ u = (s.byeEffect i own).closeFrame .bye) (h : QueueEdits A q s.queue) :
    QueueEdits A q u.queue := by
  have effect : QueueEdits A q (s.byeEffect i own).queue := by simpa using h
  rcases is with rfl | ⟨-, rfl⟩
  · exact effect
  · exact effect.closeFrame .bye (by simpa [State.isMember] using plans)

/-- Edits of the queue, or of the emptied one. -/
def QueueRuns (q r : List QueuedCell) : Prop := QueueEdits anyKind q r ∨ QueueEdits anyKind [] r

theorem QueueRuns.of_empty {r : List QueuedCell} (empty : r = []) : QueueRuns q r := .inr (empty ▸ .refl)

theorem QueueRuns.then {r u : List QueuedCell} (h : QueueRuns q r) (edits : QueueEdits anyKind r u) : QueueRuns q u :=
  h.imp (·.trans edits) (·.trans edits)

theorem QueueRuns.onePerPlace {r : List QueuedCell} (h : QueueRuns q r) (places : Machine.onePerPlace q) :
    Machine.onePerPlace r := h.elim (·.onePerPlace places) (·.onePerPlace List.nodup_nil)

theorem QueueRuns.unmarked {r : List QueuedCell} (h : QueueRuns q r) (idle : Machine.unmarked q) : Machine.unmarked r :=
  h.elim (·.unmarked idle) (·.unmarked fun _ mem => absurd mem List.not_mem_nil)

theorem queueRuns_units {hd : Header} {p : Option (List Byte)} (own : Option Flight) (q : List QueuedCell) :
    UnitRules hd p own fun s => QueueRuns q s.queue where
  count s f h := h
  mutes s cause why _ _ _ := .of_empty (by simp)
  hears s f _ h := h.then (QueueEdits.hears f trivial .refl)
  records s f _ h := h
  queryTimer s _ _ h := h
  installs s p d _ _ _ h := h.then (QueueEdits.install hd d trivial (plansIn_any _) .refl)
  recording s t part _ h := by
    cases part with
    | served => exact h.then (QueueEdits.serveClaims (plansIn_any _) .refl)
    | _ => simpa using h
  suspects s why _ h := h.then (QueueEdits.enterSuspect why trivial .refl)
  tile s _ _ h := h.then (QueueEdits.completeTile _ (plansIn_any _) .refl)
  claim s b _ _ h := h.then (QueueEdits.applyClaim _ _ _ (plansIn_any _) (fun _ _ => trivial) .refl)
  release s b _ _ h := by simpa using h
  bye s _ _ h := by
    obtain ⟨u, closes, is⟩ := s.applyBye_cases hd.sender own.isSome
    rw [is]
    split
    · exact .of_empty (by simp)
    · exact h.then (QueueEdits.byeEffect _ _ (plansIn_any _) closes .refl)
  close s _ _ h := h.then (QueueEdits.closeFrame .close (plansIn_any _) .refl)
  asked s _ _ h := h.then (QueueEdits.answerQuery _ trivial .refl)
  served s d _ _ h := h.then (QueueEdits.requestersServed d .refl)

end Operations

end Sys2Proof.Machine
end

section
set_option Elab.async false
/-! O58: the grid and the own cell on the link (R111, R117, R161, R164, R166), over the queue's places (R162). -/

namespace Sys2Proof.Machine

open Relation (ReflTransGen)

/-! ### One cell in each place -/

section Places

variable {s t : State}

theorem State.queuePlaces_iff : s.queuePlaces = true ↔ onePerPlace s.queue := by
  simp [State.queuePlaces, onePerPlace]

/-- A change that `p`'s first element undergoes is not seen by what it leaves as it is. -/
theorem map_changeFirst {α β : Type} {p : α → Bool} {f : α → α} {g : α → β} (same : ∀ a, g (f a) = g a) (l : List α) :
    (changeFirst p f l).map g = l.map g := by
  induction l with
  | nil => rfl
  | cons a rest ih =>
    unfold changeFirst
    split <;> simp [same, ih]

theorem State.startControl_queue (s : State) (c : QueuedCell) :
    (s.startControl c).queue = changeFirst (fun d => d.kind == c.kind)
      (fun d => { d with given := some (s.sequenceFor c), inFlight := true }) s.queue := rfl

theorem Flight.queue_sublist (f : Flight) (s : State) : (s.afterOwn f).queue.Sublist s.queue := by
  rw [State.afterOwn]
  cases f.source
  · exact List.eraseP_sublist
  · exact .refl _

theorem QueueEdits.withdrawOffAfter {A : QueueKind → Prop} {q : List QueuedCell} (n : SlotNo)
    (h : QueueEdits A q s.queue) : QueueEdits A q (s.withdrawOffAfter n).queue := by
  unfold State.withdrawOffAfter
  split
  · simpa using h.withdraw fun k => k == .claim n
  · exact h

/-- The queue with the in-flight marks cleared (R113, R164). -/
def unmark (q : List QueuedCell) : List QueuedCell := q.map fun c => { c with inFlight := false }

/-- The queue of a lost cell: emptied in MUTED, else the marks cleared, then edits. -/
theorem State.ownCellAborted_edits {A : QueueKind → Prop} (s : State) (src : CellSource) (m : Bool)
    (plans : plansIn A s.isMember) :
    ((s.ownCellAborted src m).isMuted = true ∧ (s.ownCellAborted src m).queue = []) ∨
    ((s.ownCellAborted src m).membership.state = s.membership.state ∧
      (s.ownCellAborted src m).recovery = s.recovery ∧
      QueueEdits A (unmark s.queue) (s.ownCellAborted src m).queue) := by
  have cleared : QueueEdits A (unmark s.queue) (s.marksCleared m).queue := by cases m <;> exact .refl
  have plans1 : plansIn A (s.marksCleared m).isMember := by simpa [State.isMember] using plans
  rcases s.ownCellAborted_cases src m with ⟨-, is⟩ | ⟨-, -, is⟩ | ⟨-, n, -, is⟩ | ⟨-, k, -, -, is⟩ <;> rw [is]
  · exact .inl ⟨by simp [State.isMuted], by simp⟩
  · exact .inr ⟨by simp, by simp, cleared⟩
  · exact .inr ⟨by simp, by simp, (cleared.withdrawOffAfter n).serveClaims (by simpa [State.isMember] using plans1)⟩
  · exact .inr ⟨by simp, by simp, cleared.serveClaims plans1⟩

theorem unmarked_unmark (q : List QueuedCell) : unmarked (unmark q) := by
  intro c mem
  obtain ⟨d, -, rfl⟩ := List.mem_map.1 mem
  rfl

theorem State.ownCellAborted_places (s : State) (src : CellSource) (m : Bool) (h : onePerPlace s.queue) :
    onePerPlace (s.ownCellAborted src m).queue := by
  rcases s.ownCellAborted_edits src m (plansIn_any _) with ⟨-, none⟩ | ⟨-, -, edits⟩
  · rw [none]; exact List.nodup_nil
  · exact edits.onePerPlace (by simpa [onePerPlace, unmark, Function.comp_def] using h)

theorem places_cell (h : onePerPlace s.queue) :
    CellRules s (fun s => onePerPlace s.queue) fun s => onePerPlace s.queue where
  stays := h
  linkIdle _ := h
  taken _ := by simpa using h
  heard j _ := by simpa using h
  peers c t h := (UnitRules.handOver (queueRuns_units none t.queue) c (.inl .refl)).onePerPlace h
  own f _ := (UnitRules.handOver (queueRuns_units (some f) (s.afterOwn f).queue) _ (.inl .refl)).onePerPlace
    (h.sublist ((f.queue_sublist s).map _))
  lost f j _ _ := State.ownCellAborted_places _ _ _ (by simpa using h)
  settles t h := by simpa using h

/-- The kinds that join the queue of a station that is in this state, a QUERY's own times aside: any other at a MEMBER. -/
def joinsAt (st : StationState) : QueueKind → Prop := fun k => st = .member ∧ k ≠ .query

theorem plansIn_joinsAt {st : StationState} {b : Bool} (member : b = true → st = .member) : plansIn (joinsAt st) b :=
  fun is => ⟨by simp [joinsAt, member is], fun n => ⟨by simp [joinsAt, member is], by simp [joinsAt, member is]⟩⟩

theorem plansIn_joinsAt_self (s : State) : plansIn (joinsAt s.membership.state) s.isMember :=
  plansIn_joinsAt isMember_iff.1

theorem State.slotOff_edits (s : State) (n : SlotNo) :
    QueueEdits (joinsAt s.membership.state) s.queue (s.slotOff n).queue := by
  unfold State.slotOff
  simp only []
  split
  · exact .refl
  · exact .refl
  · exact .refl
  · split
    · exact .refl
    · simpa using QueueEdits.withdraw (A := joinsAt s.membership.state) (fun k => k == .claim n) .refl
  · split
    · next member => exact .enqueue (s := s.setSlotState n .dropping) _ ((plansIn_joinsAt_self s member).2 n).2 .refl
    · exact .refl
  · exact .refl

theorem QueueEdits.entersMember {q : List QueuedCell} (h : q = s.queue) :
    QueueEdits (joinsAt .member) q s.memberCells.queue :=
  QueueEdits.memberCells (by simp [joinsAt]) (plansIn_joinsAt fun _ => rfl) (.of_eq h.symm)

theorem State.found_edits (s : State) : QueueEdits (joinsAt .member) s.queue s.found.queue := by
  unfold State.found
  exact QueueEdits.entersMember (by simp)

theorem State.selfTrust_edits (s : State) : QueueEdits (joinsAt .member) s.queue s.selfTrust.queue := by
  unfold State.selfTrust
  simp only [State.abandonNotices_frame]
  exact QueueEdits.entersMember rfl

theorem State.syncingFallback_edits (s : State) : QueueEdits (joinsAt .member) s.queue s.syncingFallback.queue := by
  unfold State.syncingFallback
  simp only [State.abandonNotices_frame]
  exact QueueEdits.entersMember rfl

/-- What the parts of the other commands make of the queue: edits; it is emptied by a reset, a failed load and REJOIN;
the start of a control cell marks it; and the query timer's expiry repeats the QUERY. -/
theorem Event.queue_cases (part : Event s t) :
    QueueEdits (joinsAt t.membership.state) s.queue t.queue ∨
    (t.queue = [] ∧ t.membership.state.silent = true) ∨
    (∃ c, s.selected = some (.queue c.kind) ∧ (s.queue.find? fun d => d.kind == c.kind) = some c ∧
      t = s.startControl c) ∨
    (s.recovery.timerRunning = true ∧
      t = ({ s with recovery := ⟨false, s.recovery.attempts + 1, s.recovery.dumpPending⟩ }.enqueue .query)) := by
  cases part with
  | reset c n b => exact .inr (.inl ⟨rfl, rfl⟩)
  | rejoin left => exact .inr (.inl ⟨rfl, rfl⟩)
  | fails d strap =>
    rcases s.strapFailed_cases d with ⟨-, is⟩ | ⟨-, is⟩
    · exact .inl (by rw [is])
    · exact .inr (.inl ⟨by rw [is]; simp, by rw [is]; simp [StationState.silent]⟩)
  | control c selected first => exact .inr (.inr (.inl ⟨c, selected, first, rfl⟩))
  | founds => exact .inl (by simpa using s.found_edits)
  | closeQueued member => exact .inl (QueueEdits.enqueue _ (by simp [joinsAt, member]) .refl)
  | leave member => exact .inl (QueueEdits.enqueue _ (by simp [joinsAt, member]) .refl)
  | queryRepeats running => exact .inr (.inr (.inr ⟨running, rfl⟩))
  | selfTrusts => exact .inl (by simpa using s.selfTrust_edits)
  | fallsBack => exact .inl (by simpa using s.syncingFallback_edits)
  | slotOff n => exact .inl (by simpa using s.slotOff_edits n)
  | slotOn n =>
    exact .inl (QueueEdits.claimIfReady n (by simpa [State.isMember] using plansIn_joinsAt_self s) (.of_eq (by simp)))
  | mismatch => exact .inl .refl
  | matched => exact .inl .refl
  | _ => exact .inl (.of_eq (by simp))

theorem Event.onePerPlace (part : Event s t) (h : onePerPlace s.queue) : Machine.onePerPlace t.queue := by
  rcases part.queue_cases with edits | ⟨empty, -⟩ | ⟨c, -, -, rfl⟩ | ⟨-, rfl⟩
  · exact edits.onePerPlace h
  · rw [empty]; exact List.nodup_nil
  · rw [State.startControl_queue, Machine.onePerPlace, map_changeFirst]
    · exact h
    · exact fun _ => rfl
  · exact (QueueEdits.enqueue .query trivial (.of_eq rfl)).onePerPlace (A := anyKind) h

theorem step_onePerPlace (next : step s = .next t) (h : onePerPlace s.queue) : onePerPlace t.queue :=
  step_keeps (P := fun s => Machine.onePerPlace s.queue) (fun _ _ h => h) (fun _ _ part => part.onePerPlace)
    (fun _ j h => (places_cell h).cellEnds j) next h

/-- R162: nine places hold nine cells at most. -/
theorem onePerPlace.length_le {q : List QueuedCell} (h : onePerPlace q) : q.length ≤ 9 := by
  have few := List.Nodup.length_le_card h
  rwa [List.length_map, Fintype.card_fin] at few

/-- R112, R164: with one cell in each place, the cell that leaves is the only one of its kind. -/
theorem onePerPlace.eraseP_kind {q : List QueuedCell} (h : onePerPlace q) (k : QueueKind) :
    (q.eraseP fun c => c.kind == k) = q.filter fun c => c.kind != k := by
  induction q with
  | nil => rfl
  | cons a rest ih =>
    obtain ⟨others, rest_places⟩ := List.nodup_cons.1 h
    by_cases is : a.kind = k
    · rw [List.eraseP_cons_of_pos (by simp [is]), List.filter_cons_of_neg (by simp [is])]
      refine (List.filter_eq_self.2 fun c mem => ?_).symm
      have differs : c.kind ≠ k := fun same => others (List.mem_map.2 ⟨c, mem, by simp [same, is]⟩)
      simpa using differs
    · rw [List.eraseP_cons_of_neg (by simpa using is), List.filter_cons_of_pos (by simpa using is), ih rest_places]

end Places

/-! ### No cell on the link -/

section Flight

variable {s t : State}

/-- No stored row is on the link. -/
def storeUnmarked (l : List StoreEntry) : Prop := ∀ e ∈ l, e.inFlight = false

/-- R164, R166: no own cell on the link. -/
structure State.Quiet (s : State) : Prop where
  flight : s.link.flight = none
  transmitter : s.link.transmitter = .idle
  queue : unmarked s.queue
  store : storeUnmarked s.store

/-- R157, R161, R166: the one in-flight mark is that of the cell's source. -/
def State.marksAgree (s : State) (f : Flight) : Prop :=
  match f.source with
  | .queue k =>
    f.cell.header.kind = k.kind.code ∧ f.cell.header.sender = s.own ∧ onlyMarked k s.queue ∧ storeUnmarked s.store
  | .store =>
    unmarked s.queue ∧ ∃ e rest, s.store = e :: rest ∧ e.inFlight = true ∧ storeUnmarked rest ∧ s.sentFrom f.cell e = true

/-- The own cell `f` is on the link. -/
structure State.Flying (s : State) (f : Flight) : Prop where
  flight : s.link.flight = some f
  busy : s.link.busy = true
  receiver : s.link.receiver = .inUse
  sends : s.membership.state.silent = false
  report : reportLawful s.link.transmitter f.report = true
  marks : s.marksAgree f

theorem State.marksAgree_queue {f : Flight} {k : QueueKind} (source : f.source = .queue k) :
    s.marksAgree f ↔ f.cell.header.kind = k.kind.code ∧ f.cell.header.sender = s.own ∧ onlyMarked k s.queue ∧
      storeUnmarked s.store := by
  rw [State.marksAgree, source]

theorem State.marksAgree_store {f : Flight} (source : f.source = .store) :
    s.marksAgree f ↔ unmarked s.queue ∧
      ∃ e rest, s.store = e :: rest ∧ e.inFlight = true ∧ storeUnmarked rest ∧ s.sentFrom f.cell e = true := by
  rw [State.marksAgree, source]

theorem State.flightLawful_none (flight : s.link.flight = none) : s.flightLawful = true ↔ s.Quiet := by
  simp only [State.flightLawful, flight, Bool.and_eq_true, beq_iff_eq, List.all_eq_true, Bool.not_eq_true']
  exact ⟨fun ⟨⟨idle, queue⟩, store⟩ => ⟨flight, idle, queue, store⟩, fun h => ⟨⟨h.transmitter, h.queue⟩, h.store⟩⟩

theorem State.flightLawful_some {f : Flight} (flight : s.link.flight = some f) : s.flightLawful = true ↔ s.Flying f := by
  have parts : s.flightLawful = true ↔ s.link.busy = true ∧ s.link.receiver = .inUse ∧
      s.membership.state.silent = false ∧ reportLawful s.link.transmitter f.report = true ∧ s.marksAgree f := by
    simp only [State.flightLawful, flight, State.marksAgree]
    cases f.source with
    | queue k => simp [onlyMarked, storeUnmarked, and_assoc, StationState.sends, imp_iff_not_or]
    | store =>
      cases store : s.store with
      | nil => simp
      | cons e rest => simp [unmarked, storeUnmarked, and_assoc, StationState.sends]
  exact parts.trans ⟨fun ⟨busy, receiver, sends, report, marks⟩ => ⟨flight, busy, receiver, sends, report, marks⟩,
    fun h => ⟨h.busy, h.receiver, h.sends, h.report, h.marks⟩⟩

theorem State.flightLawful_iff : s.flightLawful = true ↔ s.Quiet ∨ ∃ f, s.Flying f := by
  cases flight : s.link.flight with
  | none =>
    rw [State.flightLawful_none flight]
    refine ⟨.inl, fun h => h.resolve_right ?_⟩
    rintro ⟨f, flying⟩
    simp [flying.flight] at flight
  | some f =>
    rw [State.flightLawful_some flight]
    constructor
    · exact fun h => .inr ⟨f, h⟩
    · rintro (quiet | ⟨g, flying⟩)
      · simp [quiet.flight] at flight
      · rwa [Option.some.inj (flying.flight.symm.trans flight)] at flying

theorem State.Quiet.lawful (h : s.Quiet) : s.flightLawful = true := State.flightLawful_iff.2 (.inl h)

theorem State.Flying.lawful {f : Flight} (h : s.Flying f) : s.flightLawful = true := State.flightLawful_iff.2 (.inr ⟨f, h⟩)

/-! ### The cell's end at a quiet station -/

/-- What the units leave of the link: the own cell is on it no more, and it is idle at a receiver in use. -/
structure State.Listening (s : State) : Prop where
  quiet : s.Quiet
  receiver : s.link.receiver = .inUse
  idle : s.link.busy = false

theorem listening_units {hd : Header} {p : Option (List Byte)} (own : Option Flight) :
    UnitRules hd p own fun s => s.link.flight = none ∧ s.link.transmitter = .idle ∧
    s.link.receiver = .inUse ∧ s.link.busy = false where
  count s f h := h
  mutes s cause why _ _ h := by simpa using h.2.2
  hears s f _ h := by simpa using h
  records s f _ h := h
  queryTimer s _ _ h := h
  installs s p d _ _ _ h := by simpa using h
  recording s t part _ h := by cases part <;> simpa using h
  suspects s why _ h := by simpa using h
  tile s _ _ h := by simpa using h
  claim s b _ _ h := by simpa using h
  release s b _ _ h := by simpa using h
  bye s _ _ h := by simpa using h
  close s _ _ h := by simpa using h
  asked s _ _ h := by simpa using h
  served s d _ _ h := by simpa using h

theorem State.Listening.handOver (c : CellClass) (own : Option Flight) (h : s.Listening) : (s.handOver c own).Listening := by
  obtain ⟨flight, transmitter, receiver, idle⟩ := UnitRules.handOver (listening_units own) c
    ⟨h.quiet.flight, h.quiet.transmitter, h.receiver, h.idle⟩
  refine ⟨⟨flight, transmitter, ?_, fun e mem => ?_⟩, receiver, idle⟩
  · exact (UnitRules.handOver (queueRuns_units own s.queue) c (.inl .refl)).unmarked h.quiet.queue
  · exact h.quiet.store e ((UnitRules.handOver (storeSublist_units own s.store) c (.refl _)).subset mem)

theorem State.Listening.gridLawful (h : s.Listening) : s.gridLawful = true := by
  simp [State.gridLawful, h.receiver, h.idle]

theorem State.Listening.settleAttempts (h : s.Listening) : s.settleAttempts.Listening :=
  ⟨⟨by simpa using h.quiet.flight, by simpa using h.quiet.transmitter, by simpa using h.quiet.queue,
    by simpa using h.quiet.store⟩, by simpa using h.receiver, by simpa using h.idle⟩

theorem State.afterOwn_queue {f : Flight} {k : QueueKind} (source : f.source = .queue k) :
    (s.afterOwn f).queue = s.queue.eraseP fun c => c.kind == k := by
  rw [State.afterOwn, source]

theorem State.afterOwn_queue_store {f : Flight} {k : QueueKind} (source : f.source = .queue k) :
    (s.afterOwn f).store = s.store := by
  rw [State.afterOwn, source]

theorem State.afterOwn_store {f : Flight} (source : f.source = .store) :
    (s.afterOwn f).queue = s.queue ∧ (s.afterOwn f).store = s.store.drop 1 := by
  rw [State.afterOwn, source]
  exact ⟨rfl, rfl⟩

/-- R112, R158, R164: the own cell heard leaves no mark behind. -/
theorem State.Flying.afterOwn {f : Flight} (h : s.Flying f) (idle : s.link.transmitter = .idle)
    (places : onePerPlace s.queue) :
    (s.afterOwn f).Listening := by
  refine ⟨⟨by simp, by simpa using idle, ?_, ?_⟩, h.receiver, rfl⟩
  · cases source : f.source with
    | queue k =>
      obtain ⟨-, -, ⟨-, only⟩, -⟩ := (State.marksAgree_queue source).1 h.marks
      rw [State.afterOwn_queue source, places.eraseP_kind k]
      intro c mem
      obtain ⟨mem, other⟩ := List.mem_filter.1 mem
      by_contra marked
      simp [only c mem (by simpa using marked)] at other
    | store =>
      rw [(State.afterOwn_store source).1]
      exact ((State.marksAgree_store source).1 h.marks).1
  · cases source : f.source with
    | queue k =>
      rw [State.afterOwn_queue_store source]
      exact ((State.marksAgree_queue source).1 h.marks).2.2.2
    | store =>
      obtain ⟨-, e, rest, store, -, others, -⟩ := (State.marksAgree_store source).1 h.marks
      rw [(State.afterOwn_store source).2, store]
      exact others

theorem State.ownCellAborted_store (s : State) (src : CellSource) (m : Bool) :
    storeUnmarked (s.ownCellAborted src m).store := by
  have cleared : storeUnmarked (s.marksCleared m).store := by
    have is : (s.marksCleared m).store = s.store.map fun e => { e with inFlight := false } := by cases m <;> rfl
    rw [is]
    intro e mem
    obtain ⟨d, -, rfl⟩ := List.mem_map.1 mem
    rfl
  rcases s.ownCellAborted_cases src m with ⟨-, is⟩ | ⟨-, -, is⟩ | ⟨-, n, -, is⟩ | ⟨-, k, -, -, is⟩ <;> rw [is]
  · simp [storeUnmarked]
  · exact cleared
  all_goals simpa using cleared

theorem State.ownCellAborted_link (s : State) (src : CellSource) (m : Bool) (flight : s.link.flight = none)
    (idle : s.link.transmitter = .idle) : (s.ownCellAborted src m).link = s.link := by
  rcases s.ownCellAborted_cases src m with ⟨-, is⟩ | ⟨-, -, is⟩ | ⟨-, n, -, is⟩ | ⟨-, k, -, -, is⟩ <;> rw [is]
  · simp [← flight, ← idle]
  all_goals simp

/-- R113, R159, R164: a lost cell's marks are cleared, and what follows sets none. -/
theorem State.Flying.lost {f : Flight} (h : s.Flying f) (idle : s.link.transmitter = .idle) (j : Judged) :
    ((s.afterLost f j).ownCellAborted f.source (f.report == .mismatched)).Listening := by
  have link := (s.afterLost f j).ownCellAborted_link f.source (f.report == .mismatched) (by simp) (by simpa using idle)
  refine ⟨⟨by rw [link]; simp, by rw [link]; simpa using idle, ?_, State.ownCellAborted_store _ _ _⟩,
    by rw [link]; exact h.receiver, by rw [link]; rfl⟩
  rcases (s.afterLost f j).ownCellAborted_edits f.source (f.report == .mismatched) (plansIn_any _) with ⟨-,
    none⟩ | ⟨-, -, edits⟩
  · rw [none]; exact fun _ mem => absurd mem List.not_mem_nil
  · exact edits.unmarked (unmarked_unmark _)

theorem State.flying_of_lawful {f : Flight} (flight : s.link.flight = some f) (h : s.flightLawful = true) : s.Flying f :=
  (State.flightLawful_some flight).1 h

theorem State.quiet_of_lawful (flight : s.link.flight = none) (h : s.flightLawful = true) : s.Quiet :=
  (State.flightLawful_none flight).1 h

/-- What the units see of a station when a cell ends: no own cell on an idle link. -/
theorem State.listening_afterLink (j : Judged) (listens : s.listens = true) (h : s.flightLawful = true) :
    (s.afterLink j).Listening := by
  obtain ⟨receiver, idle, flight⟩ := State.listens_iff.1 listens
  have quiet := State.quiet_of_lawful flight h
  exact ⟨⟨by simpa using flight, by simpa using idle, by simpa using quiet.queue, by simpa using quiet.store⟩,
    by simpa using receiver, by simp⟩

theorem State.listening_afterOwn {f : Flight} (ends : s.ends f .matched = true) (places : onePerPlace s.queue)
    (h : s.flightLawful = true) : (s.afterOwn f).Listening := by
  obtain ⟨-, idle, flight, -⟩ := State.ends_iff.1 ends
  exact (State.flying_of_lawful flight h).afterOwn idle places

theorem flight_cell (places : onePerPlace s.queue) (grid : s.gridLawful = true) (h : s.flightLawful = true) :
    CellRules s (fun s => s.gridLawful = true ∧ s.flightLawful = true) State.Listening where
  stays := ⟨grid, h⟩
  linkIdle unused := by
    have stopped : s.ladder.grid = .stopped := by simpa [State.gridLawful, unused] using grid
    have quiet := (State.flightLawful_iff.1 h).resolve_right fun ⟨f, flying⟩ => by
      simp [flying.receiver] at unused
    exact ⟨by simp [State.gridLawful, State.linkIdle, stopped],
      State.Quiet.lawful ⟨quiet.flight, quiet.transmitter, quiet.queue, quiet.store⟩⟩
  taken waits := by
    have quiet := (State.flightLawful_iff.1 h).resolve_right fun ⟨f, flying⟩ => by
      simp [flying.receiver] at waits
    exact ⟨by simp [State.gridLawful, State.receiverTaken],
      State.Quiet.lawful ⟨quiet.flight, quiet.transmitter, quiet.queue, quiet.store⟩⟩
  heard j listens := State.listening_afterLink j listens h
  peers c t h := h.handOver c none
  own f ends := (State.listening_afterOwn ends places h).handOver _ _
  lost f j flight idle := (State.flying_of_lawful flight h).lost idle j
  settles t h := ⟨h.settleAttempts.gridLawful, h.settleAttempts.quiet.lawful⟩

/-! ### The other commands with or without an own cell on the link -/

/-- Rows and end markers join the store at its end (R141 to R143). -/
def StoreGrows (l m : List StoreEntry) : Prop := ∃ added, storeUnmarked added ∧ m = l ++ added

theorem StoreGrows.refl (l : List StoreEntry) : StoreGrows l l := ⟨[], fun _ mem => absurd mem List.not_mem_nil, by simp⟩

theorem StoreGrows.of_eq {l m : List StoreEntry} (same : m = l) : StoreGrows l m := same ▸ .refl l

theorem StoreGrows.one {l m : List StoreEntry} {e : StoreEntry} (off : e.inFlight = false) (is : m = l ++ [e]) :
    StoreGrows l m := ⟨[e], fun d mem => by rw [List.mem_singleton.1 mem]; exact off, is⟩

theorem storeGrows_endEarly (s : State) (n : SlotNo) : StoreGrows s.store (endEarly s n).store := by
  unfold endEarly
  split
  · exact .one rfl rfl
  · exact .refl _

theorem storeGrows_handleRow (s : State) (n : SlotNo) (f : Word) (next missing rows : Nat) (row : Option (List Byte)) :
    StoreGrows s.store (s.handleRow n f next missing rows row).store := by
  have missed (t : State) (same : t.store = s.store) : StoreGrows s.store
      (if next + 1 = rows then t.endTile n f (lastTileRow rows) (.endMarker (missing + 1)) (missing + 1)
       else t.setContext n (.capturing f (next + 1) (missing + 1))).store := by
    split
    · exact .one rfl (by rw [← same]; rfl)
    · exact .of_eq (by simpa using same)
  unfold State.handleRow
  simp only []
  split
  · exact missed s rfl
  · split
    · split
      · exact .one rfl rfl
      · exact .one rfl rfl
    · exact missed s.dropLine (by simp [State.dropLine])

theorem storeGrows_takeLine (s : State) (row : Nat) (pixels : List Pixel) (n : SlotNo) :
    StoreGrows s.store (takeLine row pixels s n).store := by
  unfold takeLine
  split
  · split
    · exact .refl _
    · split
      · exact storeGrows_handleRow s n _ _ _ _ _
      · exact .refl _
  · exact .refl _

theorem beginCapture_store (s : State) (n : SlotNo) : (beginCapture s n).store = s.store := by
  unfold beginCapture
  split <;> simp

theorem StoreGrows.storeUnmarked {l m : List StoreEntry} (grows : StoreGrows l m) (h : storeUnmarked l) :
    Machine.storeUnmarked m := by
  obtain ⟨added, off, rfl⟩ := grows
  exact fun e mem => (List.mem_append.1 mem).elim (h e) (off e)

theorem State.own_congr (words : t.strap.words = s.strap.words) : t.own = s.own := by
  simp [State.own, words]

theorem State.sentFrom_congr {c : Cell} {e : StoreEntry} (own : t.own = s.own) : t.sentFrom c e = s.sentFrom c e := by
  simp [State.sentFrom, own]

/-- The marks of the cell on the link stand when the queue is edited and the store grows. -/
theorem State.marksAgree.edited {f : Flight} (h : s.marksAgree f) (own : t.own = s.own)
    (queue : QueueEdits anyKind s.queue t.queue)
    (store : StoreGrows s.store t.store) : t.marksAgree f := by
  cases source : f.source with
  | queue k =>
    obtain ⟨kind, sender, marks, off⟩ := (State.marksAgree_queue source).1 h
    exact (State.marksAgree_queue source).2 ⟨kind, sender.trans own.symm, queue.onlyMarked marks, store.storeUnmarked off⟩
  | store =>
    obtain ⟨off, e, rest, is, marked, others, sent⟩ := (State.marksAgree_store source).1 h
    obtain ⟨added, added_off, grown⟩ := store
    exact (State.marksAgree_store source).2 ⟨queue.unmarked off, e, rest ++ added, by rw [grown, is]; rfl, marked,
      fun d mem => (List.mem_append.1 mem).elim (others d) (added_off d), (State.sentFrom_congr own).trans sent⟩

/-- The laws of the flight stand under edits, with the link as it was. -/
theorem State.flightLawful_edited (h : s.flightLawful = true) (own : s.membership.state.silent = false → t.own = s.own)
    (link : t.link = s.link) (sends : s.membership.state.silent = false → t.membership.state.silent = false)
    (queue : QueueEdits anyKind s.queue t.queue) (store : StoreGrows s.store t.store) : t.flightLawful = true := by
  rcases State.flightLawful_iff.1 h with quiet | ⟨f, flying⟩
  · exact State.Quiet.lawful ⟨by rw [link]; exact quiet.flight, by rw [link]; exact quiet.transmitter,
      queue.unmarked quiet.queue, store.storeUnmarked quiet.store⟩
  · exact State.Flying.lawful ⟨by rw [link]; exact flying.flight, by rw [link]; exact flying.busy,
      by rw [link]; exact flying.receiver, sends flying.sends, by rw [link]; exact flying.report,
      flying.marks.edited (own flying.sends) queue store⟩

/-- R112, R113: the transmitter's report, with the rest as it was. -/
theorem State.flightLawful_reported (h : s.flightLawful = true) (driving : s.link.transmitter ≠ .idle) (tx : Transmitter)
    (r : Report) (lawful : reportLawful tx r = true) : (s.report tx r).flightLawful = true := by
  obtain ⟨f, flying⟩ := (State.flightLawful_iff.1 h).resolve_left fun quiet => driving quiet.transmitter
  exact State.Flying.lawful (f := { f with report := r }) ⟨by simp [State.report, flying.flight], flying.busy,
    flying.receiver, flying.sends, lawful, flying.marks⟩

theorem State.receiver_of_grid (grid : s.gridLawful = true) (running : s.ladder.grid ≠ .stopped) :
    s.link.receiver = .inUse := by
  simp only [State.gridLawful, Bool.or_eq_true, beq_iff_eq, Bool.and_eq_true] at grid
  exact (grid.resolve_left running).1

theorem State.quiet_of_idle (h : s.flightLawful = true) (idle : s.link.busy = false) : s.Quiet :=
  (State.flightLawful_iff.1 h).resolve_right fun ⟨f, flying⟩ => by simp [flying.busy] at idle

/-- Marking the first element of a kind marks it alone. -/
theorem onlyMarked_changeFirst {q : List QueuedCell} {c : QueuedCell} {x : Option Byte}
    (first : (q.find? fun d => d.kind == c.kind) = some c) (h : unmarked q) :
    onlyMarked c.kind (changeFirst (fun d => d.kind == c.kind) (fun d => { d with given := x, inFlight := true }) q) := by
  induction q with
  | nil => cases first
  | cons a rest ih =>
    have rest_off : unmarked rest := fun d mem => h d (List.mem_cons_of_mem a mem)
    unfold changeFirst
    by_cases is : a.kind = c.kind
    · rw [if_pos (by simpa using is)]
      refine ⟨⟨_, List.mem_cons_self, is, rfl⟩, fun d mem marked => ?_⟩
      rcases List.mem_cons.1 mem with rfl | mem
      · exact is
      · simp [rest_off d mem] at marked
    · rw [if_neg (by simpa using is)]
      rw [List.find?_cons_of_neg (by simpa using is)] at first
      obtain ⟨⟨d, mem, kind, marked⟩, only⟩ := ih first rest_off
      refine ⟨⟨d, List.mem_cons_of_mem a mem, kind, marked⟩, fun e mem marked => ?_⟩
      rcases List.mem_cons.1 mem with rfl | mem
      · simp [h e List.mem_cons_self] at marked
      · exact only e mem marked

/-- R111, R121: a control cell's start on an idle link. -/
theorem State.startControl_flying {c : QueuedCell} (selected : s.selected = some (.queue c.kind))
    (first : (s.queue.find? fun d => d.kind == c.kind) = some c) (running : s.ladder.grid ≠ .stopped)
    (idle : s.link.busy = false) (grid : s.gridLawful = true) (h : s.flightLawful = true) :
    (s.startControl c).Flying ⟨s.controlCell c.kind (s.sequenceFor c), .queue c.kind, s.cropFor c.kind, .none⟩ where
  flight := rfl
  busy := rfl
  receiver := by exact State.receiver_of_grid (s := s) grid running
  sends := by simpa using State.sends_of_selected selected
  report := rfl
  marks := (State.marksAgree_queue rfl).2 ⟨rfl, rfl,
    onlyMarked_changeFirst first (State.quiet_of_idle h idle).queue, (State.quiet_of_idle h idle).store⟩

/-- Section 11.1: the aux field's slot bits are the slot. -/
theorem tileAux_slot (n : SlotNo) (row : Nat) : ((tileAux n row).extractLsb' 0 2).toFin = n := by
  apply Fin.ext
  simp only [BitVec.val_toFin]
  rw [toNat_extractLsb'_low, tileAux, toNat_append_eq_add, BitVec.toNat_ofNat]
  omega

/-- R157: a TILE is the cell of its entry. -/
theorem State.sentFrom_tileCell (s : State) (e : StoreEntry) :
    (s.startTile e).sentFrom (s.tileCell e) { e with inFlight := true } = true := by
  have last : (s.tileCell e).header.last = e.sort.isLast := by
    simp only [State.tileCell, Header.last]
    cases e.sort.isLast <;> decide
  have slot : (s.tileCell e).header.tileSlot = e.slot := tileAux_slot e.slot e.tileRow
  have kind : (s.tileCell e).header.kind = Kind.tile.code := rfl
  have sender : (s.tileCell e).header.sender = (s.startTile e).own := rfl
  have frame : (s.tileCell e).header.frame = e.frame := rfl
  simp only [State.sentFrom, last, slot, kind, sender, frame, beq_self_eq_true, Bool.and_self]

/-- R157, R121: a TILE's start on an idle link. -/
theorem State.startTile_flying {e : StoreEntry} {rest : List StoreEntry} (selected : s.selected = some .store)
    (first : s.store = e :: rest) (running : s.ladder.grid ≠ .stopped) (idle : s.link.busy = false)
    (grid : s.gridLawful = true) (h : s.flightLawful = true) :
    (s.startTile e).Flying ⟨s.tileCell e, .store, ⟨0, 0⟩, .none⟩ where
  flight := rfl
  busy := rfl
  receiver := by exact State.receiver_of_grid (s := s) grid running
  sends := by simpa using State.sends_of_selected selected
  report := rfl
  marks := (State.marksAgree_store rfl).2 ⟨(State.quiet_of_idle h idle).queue, { e with inFlight := true }, rest,
    by simp [State.startTile, State.drive, State.linkBusy, first], rfl,
    fun d mem => (State.quiet_of_idle h idle).store d (by rw [first]; exact List.mem_cons_of_mem e mem),
    State.sentFrom_tileCell s e⟩

/-- R118, R182: the receiver is in use behind an idle link, and a grid runs only there. -/
theorem State.gridLawful_takeIntoUse (h : s.gridLawful = true) : s.takeIntoUse.gridLawful = true := by
  unfold State.takeIntoUse
  split
  · next busy =>
    have stopped : s.ladder.grid = .stopped := by simpa [State.gridLawful, busy] using h
    simp [State.gridLawful, stopped]
  · next idle => simp [State.gridLawful, State.startGrid, idle]

theorem Event.gridLawful (part : Event s t) (h : s.gridLawful = true) : t.gridLawful = true := by
  have kept (grid : t.ladder.grid = s.ladder.grid) (link : t.link.receiver = s.link.receiver)
      (busy : t.link.busy = s.link.busy) : t.gridLawful = true := by
    simpa only [State.gridLawful, grid, link, busy] using h
  cases part with
  | reset => rfl
  | loads words strap =>
    unfold State.enterListen
    exact State.gridLawful_takeIntoUse (by simpa [State.gridLawful, State.forSlots_eq] using h)
  | fails d strap =>
    rcases s.strapFailed_cases d with ⟨-, is⟩ | ⟨-, is⟩ <;> rw [is]
    · exact h
    · exact State.gridLawful_takeIntoUse (by simpa [State.gridLawful] using h)
  | linkBusy => simp [State.gridLawful]
  | slot j running =>
    simp only [State.gridLawful, Bool.or_eq_true, beq_iff_eq] at h ⊢
    exact .inr (h.resolve_left running)
  | control => simp [State.gridLawful]
  | tile => simp [State.gridLawful]
  | mismatch => exact h
  | matched => exact h
  | rejoin => exact h
  | settles => rcases s.settleAttempts_cases with is | ⟨-, -, is⟩ <;> rw [is] <;> exact h
  | slotOff n => exact kept (by simp) (by simp) (by simp)
  | _ => exact kept (by simp) (by simp) (by simp)

theorem Event.flightLawful (part : Event s t) (grid : s.gridLawful = true) (h : s.flightLawful = true) :
    t.flightLawful = true := by
  have quiet_of_silent (silent : s.membership.state.silent = true) : s.Quiet :=
    (State.flightLawful_iff.1 h).resolve_right fun ⟨f, flying⟩ => by simp [flying.sends] at silent
  have kept (strap : t.strap.words = s.strap.words) (link : t.link = s.link)
    (state : t.membership.state = s.membership.state)
      (queue : QueueEdits anyKind s.queue t.queue) (store : StoreGrows s.store t.store) : t.flightLawful = true :=
    State.flightLawful_edited h (fun _ => State.own_congr strap) link (fun sends => state ▸ sends) queue store
  cases part with
  | reset => rfl
  | loads words strap =>
    have quiet := quiet_of_silent (by simp [strap, StationState.silent])
    exact State.Quiet.lawful ⟨by simpa using quiet.flight, by simpa using quiet.transmitter, by simpa using quiet.queue,
      by simpa using quiet.store⟩
  | fails d strap =>
    have quiet := quiet_of_silent (by simp [strap, StationState.silent])
    rcases s.strapFailed_cases d with ⟨-, is⟩ | ⟨-, is⟩ <;> rw [is]
    · exact h
    · exact State.Quiet.lawful ⟨by simp, by simp, by simp [unmarked], by simp [storeUnmarked]⟩
  | linkBusy =>
    rcases State.flightLawful_iff.1 h with quiet | ⟨f, flying⟩
    · exact State.Quiet.lawful ⟨by simpa using quiet.flight, by simpa using quiet.transmitter, by simpa using quiet.queue,
        by simpa using quiet.store⟩
    · exact State.Flying.lawful (f := f) ⟨by simpa using flying.flight, by simp, by simpa using flying.receiver,
        by simpa using flying.sends, by simpa using flying.report,
        flying.marks.edited rfl (QueueEdits.of_eq (by simp)) (.of_eq (by simp))⟩
  | mismatch sending => exact State.flightLawful_reported h (by simp [sending]) _ _ rfl
  | matched sending => exact State.flightLawful_reported h (by simp [sending]) _ _ rfl
  | markDone marking =>
    obtain ⟨f, flying⟩ := (State.flightLawful_iff.1 h).resolve_left fun quiet => by simp [quiet.transmitter] at marking
    have mismatched : f.report = .mismatched := by simpa [reportLawful, marking] using flying.report
    exact State.Flying.lawful (f := f) ⟨flying.flight, flying.busy, flying.receiver, flying.sends,
      by simp [reportLawful, mismatched], flying.marks⟩
  | control c selected first running idle => exact (State.startControl_flying selected first running idle grid h).lawful
  | tile e rest selected first running idle => exact (State.startTile_flying selected first running idle grid h).lawful
  | founds listen =>
    have quiet := quiet_of_silent (by simp [listen, StationState.silent])
    exact State.Quiet.lawful ⟨by simpa using quiet.flight, by simpa using quiet.transmitter,
      s.found_edits.unmarked quiet.queue, by simpa using quiet.store⟩
  | rejoin left =>
    have quiet := quiet_of_silent (by simp [left, StationState.silent])
    exact State.Quiet.lawful ⟨quiet.flight, quiet.transmitter, fun _ mem => absurd mem List.not_mem_nil,
      fun _ mem => absurd mem List.not_mem_nil⟩
  | selfTrusts suspect =>
    exact State.flightLawful_edited h (fun _ => State.own_congr (by simp)) (by simp) (fun _ => by simp [StationState.silent])
      s.selfTrust_edits.any (.of_eq (by simp))
  | fallsBack syncing =>
    exact State.flightLawful_edited h (fun _ => State.own_congr (by simp)) (by simp) (fun _ => by simp [StationState.silent])
      s.syncingFallback_edits.any (.of_eq (by simp))
  | captureBegins n =>
    exact kept (by simp) (by simp) (by simp) (QueueEdits.of_eq (by simp)) (.of_eq (beginCapture_store s n))
  | captureEnds n => exact kept (by simp) (by simp) (by simp) (QueueEdits.of_eq (by simp)) (storeGrows_endEarly s n)
  | line row pixels n =>
    exact kept (by simp) (by simp) (by simp) (QueueEdits.of_eq (by simp)) (storeGrows_takeLine s row pixels n)
  | closeQueued => exact kept (by simp) (by simp) (by simp) (QueueEdits.enqueue _ trivial .refl) (.of_eq (by simp))
  | leave => exact kept (by simp) (by simp) (by simp) (QueueEdits.enqueue _ trivial .refl) (.of_eq (by simp))
  | queryRepeats =>
    exact kept (by simp) (by simp) (by simp) (QueueEdits.enqueue _ trivial (QueueEdits.of_eq rfl)) (.of_eq (by simp))
  | slotOff n => exact kept (by simp) (by simp) (by simp) (s.slotOff_edits n).any (.of_eq (by simp))
  | slotOn n =>
    exact kept (by simp) (by simp) (by simp) (QueueEdits.claimIfReady n (plansIn_any _) (QueueEdits.of_eq (by simp)))
      (.of_eq (by simp))
  | _ => exact kept (by simp) (by simp) (by simp) (QueueEdits.of_eq (by simp)) (.of_eq (by simp))

/-- The laws of the places and of the flight, together. -/
structure State.QueueLaws (s : State) : Prop where
  places : onePerPlace s.queue
  grid : s.gridLawful = true
  flight : s.flightLawful = true

theorem Event.queueLaws (part : Event s t) (h : s.QueueLaws) : t.QueueLaws :=
  ⟨part.onePerPlace h.places, part.gridLawful h.grid, part.flightLawful h.grid h.flight⟩

theorem State.QueueLaws.cellEnds (j : Judged) (h : s.QueueLaws) : (s.cellEnds j).QueueLaws :=
  have ⟨grid, flight⟩ := (flight_cell h.places h.grid h.flight).cellEnds j
  ⟨(places_cell h.places).cellEnds j, grid, flight⟩

theorem step_queueLaws (next : step s = .next t) (h : s.QueueLaws) : t.QueueLaws :=
  step_keeps (P := State.QueueLaws) (fun _ _ h => ⟨h.places, h.grid, h.flight⟩) (fun _ _ part => part.queueLaws)
    (fun _ j h => h.cellEnds j) next h

/-- Settles O58: the units see a station without an own cell on the link, and the other commands edit the queue and
extend the store behind the marked cell. -/
theorem everyStepKeepsTheFlightLawful : Obligations.EveryStepKeepsTheFlightLawful := by
  unfold Obligations.EveryStepKeepsTheFlightLawful
  intro s t places grid flight next
  obtain ⟨-, grid, flight⟩ := step_queueLaws next ⟨State.queuePlaces_iff.1 places, grid, flight⟩
  exact ⟨grid, flight⟩

end Flight

end Sys2Proof.Machine
end

section
set_option Elab.async false
/-! O55: which cells a recovering station queues (R167), and which queued cells hold a given number (R165). -/

namespace Sys2Proof.Machine

open Relation (ReflTransGen)

section Given

variable {s t : State}

/-- A station whose recovery runs: SYNCING or SUSPECT (R78). -/
def State.recovering (s : State) : Prop := s.membership.state = .syncing ∨ s.membership.state = .suspect

/-- The kinds of R167: a QUERY and a BYE. -/
def onlyRecovery : QueueKind → Prop := fun k => k = .query ∨ k = .bye

/-- R165: a cell that holds no given number, or a QUERY. -/
def ungivenUnlessQuery (q : List QueuedCell) : Prop := ∀ c ∈ q, c.given = none ∨ c.kind = .query

theorem State.suspectQueue_iff : s.suspectQueue = true ↔ (s.recovering → kindsIn onlyRecovery s.queue) := by
  simp only [State.suspectQueue, State.recovering, kindsIn, onlyRecovery]
  cases s.membership.state <;> simp

/-- R165, as it holds of a MEMBER and of a recovering station. -/
structure State.GivenLaws (s : State) : Prop where
  member : s.membership.state = .member → onlyFirstGiven s.queue ∧ kindsIn notQuery s.queue
  recovering : s.recovering → ungivenUnlessQuery s.queue ∧ (s.recovery.timerRunning = true → kindsIn notQuery s.queue)

theorem State.givenLawful_iff : s.givenLawful = true ↔ s.GivenLaws := by
  have split : s.GivenLaws ↔
      (s.membership.state = .member → onlyFirstGiven s.queue ∧ kindsIn notQuery s.queue) ∧
      (s.recovering → ungivenUnlessQuery s.queue ∧ (s.recovery.timerRunning = true → kindsIn notQuery s.queue)) :=
    ⟨fun h => ⟨h.member, h.recovering⟩, fun h => ⟨h.1, h.2⟩⟩
  rw [split]
  simp only [State.givenLawful, State.queryMayHold, State.recovering, onlyFirstGiven, kindsIn, notQuery, ungivenUnlessQuery]
  cases s.membership.state <;> simp [imp_iff_not_or]

/-- In one place there is one cell. -/
theorem onePerPlace.countP_le_one {q : List QueuedCell} (places : onePerPlace q) {p : QueuedCell → Bool} {k : QueueKind}
    (kinds : ∀ c ∈ q, p c = true → c.kind = k) : q.countP p ≤ 1 := by
  induction q with
  | nil => simp
  | cons a rest ih =>
    obtain ⟨others, rest_places⟩ := List.nodup_cons.1 places
    by_cases holds : p a = true
    · have none : rest.countP p = 0 := by
        rw [List.countP_eq_zero]
        intro c mem given
        refine others (List.mem_map.2 ⟨c, mem, ?_⟩)
        simp [kinds c (List.mem_cons_of_mem a mem) given, kinds a List.mem_cons_self holds]
      rw [List.countP_cons_of_pos holds, none]
    · rw [List.countP_cons_of_neg holds]
      exact ih rest_places fun c mem => kinds c (List.mem_cons_of_mem a mem)

/-- At most one queued cell holds a given number. -/
theorem State.GivenLaws.count_given (h : s.GivenLaws) (places : onePerPlace s.queue) (silent : s.silentEmpty = true) :
    s.queue.countP (fun c => c.given.isSome) ≤ 1 := by
  by_cases quiet : s.membership.state.silent = true
  · simp [(State.silentEmpty_iff.1 silent quiet).queue]
  · by_cases member : s.membership.state = .member
    · have first := (h.member member).1
      cases queue : s.queue with
      | nil => simp
      | cons a rest =>
        have none : rest.countP (fun c => c.given.isSome) = 0 := by
          rw [List.countP_eq_zero]
          intro c mem
          rw [queue] at first
          simp [first c mem]
        rw [List.countP_cons, none]
        split <;> simp
    · have recovering : s.recovering := by
        unfold State.recovering
        generalize s.membership.state = st at quiet member
        cases st <;> simp_all [StationState.silent]
      refine places.countP_le_one (k := .query) fun c mem given => ?_
      refine ((h.recovering recovering).1 c mem).resolve_left fun none => ?_
      simp [none] at given

theorem onlyFirstGiven_of_none {q : List QueuedCell} (h : ∀ c ∈ q, c.given = none) : onlyFirstGiven q :=
  fun c mem => h c (List.mem_of_mem_drop mem)

theorem onlyFirstGiven_sublist {q r : List QueuedCell} (sub : r.Sublist q) (h : onlyFirstGiven q) : onlyFirstGiven r :=
  fun c mem => h c ((sub.drop 1).subset mem)

/-- With no cell on the link, every cell that `p` matches leaves. -/
theorem State.withdraw_queue_unmarked (s : State) (p : QueueKind → Bool) (idle : unmarked s.queue) :
    (s.withdraw p).queue = s.queue.filter fun c => !p c.kind := by
  rw [s.withdraw_queue p]
  refine List.filter_congr fun c mem => ?_
  rw [idle c mem]
  simp

/-! ### What the units make of the queue -/

/-- The queue laws at a cell's end: no cell is on the link, a LISTEN station queues none, and a recovering one holds
nothing but a QUERY and a BYE. -/
structure State.QueueCore (s : State) : Prop where
  idle : unmarked s.queue
  listen : s.membership.state = .listen → s.queue = []
  kinds : s.recovering → kindsIn onlyRecovery s.queue

/-- What is known of the own cell heard: it was not sent in LISTEN, and in SUSPECT it is no CLAIM. -/
structure OwnSent (hd : Header) (own : Option Flight) (s : State) : Prop where
  listen : own.isSome = true → s.membership.state ≠ .listen
  claim : own.isSome = true → Kind.ofCode hd.kind = some .claim → s.membership.state ≠ .suspect

variable {hd : Header} {own : Option Flight}

theorem OwnSent.congr (state : t.membership.state = s.membership.state) (h : OwnSent hd own s) : OwnSent hd own t :=
  ⟨fun sent => state ▸ h.listen sent, fun sent claim => state ▸ h.claim sent claim⟩

theorem OwnSent.of_state (listen : t.membership.state ≠ .listen) (suspect : t.membership.state ≠ .suspect) :
    OwnSent hd own t := ⟨fun _ => listen, fun _ _ => suspect⟩

theorem OwnSent.of_peer (peer : own = none) : OwnSent hd own t := by
  subst peer
  exact ⟨fun sent => absurd sent (by simp), fun sent => absurd sent (by simp)⟩

theorem not_recovering_of_member (member : s.membership.state = .member) : ¬ s.recovering := by
  simp [State.recovering, member]

theorem not_listen_of_inPlan (inPlan : s.membership.state.inPlan = true) : s.membership.state ≠ .listen := by
  rcases inPlan_iff.1 inPlan with is | is <;> simp [is]

theorem State.recovering_congr (state : t.membership.state = s.membership.state) : t.recovering ↔ s.recovering := by
  rw [State.recovering, State.recovering, state]

theorem joinsAt_recovering {k : QueueKind} (recovering : s.recovering) : ¬ joinsAt s.membership.state k := by
  rintro ⟨member, -⟩
  exact not_recovering_of_member member recovering

theorem State.QueueCore.congr (queue : t.queue = s.queue) (state : t.membership.state = s.membership.state)
    (h : s.QueueCore) : t.QueueCore where
  idle := queue ▸ h.idle
  listen := by rw [queue, state]; exact h.listen
  kinds := by rw [queue, State.recovering_congr state]; exact h.kinds

/-- Edits within a state past LISTEN keep the laws. -/
theorem State.QueueCore.edits (edits : QueueEdits (joinsAt s.membership.state) s.queue t.queue)
    (state : t.membership.state = s.membership.state) (past : s.membership.state ≠ .listen) (h : s.QueueCore) :
    t.QueueCore where
  idle := edits.unmarked h.idle
  listen is := absurd (state ▸ is) past
  kinds is := by
    have recovering := (State.recovering_congr state).1 is
    exact edits.kindsIn (fun k joins => absurd joins (joinsAt_recovering recovering)) (h.kinds recovering)

theorem State.QueueCore.of_empty (empty : t.queue = []) : t.QueueCore where
  idle := by simp [empty, unmarked]
  listen _ := empty
  kinds _ := by simp [empty, kindsIn]

theorem State.QueueCore.of_member (edits : QueueEdits anyKind s.queue t.queue) (member : t.membership.state = .member)
    (h : s.QueueCore) : t.QueueCore where
  idle := edits.unmarked h.idle
  listen is := by rw [member] at is; cases is
  kinds is := absurd is (not_recovering_of_member member)

/-- R84: at the entry into SUSPECT the plan's cells and a DUMP leave, a BYE stays without its number, and a QUERY joins. -/
theorem State.enterSuspect_queue_forall {F : QueuedCell → Prop} (s : State) (why : StateCause) (idle : unmarked s.queue)
    (query : F ⟨.query, none, false⟩) (bye : ∀ c ∈ s.queue, c.kind = .bye → F { c with given := none })
    (other : ∀ c ∈ s.queue, c.kind = .query → F c) :
    ∀ c ∈ (s.enterSuspect why).queue, F c := by
  have stays : ∀ c ∈ s.planWithdrawn.queue, F c := by
    intro c mem
    have shape : s.planWithdrawn.queue = (s.withdraw fun k => k.isPlan || k == .dump).queue.map fun c =>
        if c.kind == .bye then { c with given := none } else c := rfl
    rw [shape, s.withdraw_queue_unmarked _ idle] at mem
    obtain ⟨d, member, rfl⟩ := List.mem_map.1 mem
    obtain ⟨member, kept⟩ := List.mem_filter.1 member
    obtain ⟨k, g, m⟩ := d
    cases k with
    | query => simpa using other _ member rfl
    | bye => simpa using bye _ member rfl
    | hello => simp [QueueKind.isPlan] at kept
    | claim => simp [QueueKind.isPlan] at kept
    | release => simp [QueueKind.isPlan] at kept
    | close => simp [QueueKind.isPlan] at kept
    | dump => simp [QueueKind.isPlan] at kept
  rw [s.enterSuspect_queue why, State.enqueue_queue]
  split
  · exact stays
  · intro c mem
    rcases List.mem_append.1 mem with mem | mem
    · exact stays c mem
    · rw [List.mem_singleton.1 mem]; exact query

theorem State.hears_queue (s : State) (f : Word) (none : s.queue = []) :
    (s.hears f).queue = [⟨.query, Option.none, false⟩] := by
  have enqueued := State.enqueue_queue ((s.setSilence .stopped).recordFrame f) .query
  have empty : ((s.setSilence .stopped).recordFrame f).queue = [] := none
  rw [empty, State.queues, empty] at enqueued
  simpa [State.hears] using enqueued

/-- The laws hold through the units' rules. -/
theorem queueCore_units {p : Option (List Byte)} : UnitRules hd p own fun s => s.QueueCore ∧ OwnSent hd own s where
  count s f h := ⟨.congr (s := s) rfl rfl h.1, .congr (s := s) rfl h.2⟩
  mutes s cause why _ _ h := ⟨.of_empty (by simp), .of_state (by simp) (by simp)⟩
  hears s f listen h := by
    refine ⟨?_, .of_state (by simp) (by simp)⟩
    have queue := s.hears_queue f (h.1.listen listen)
    exact ⟨by rw [queue]; simp [unmarked], by simp, fun _ => by rw [queue]; simp [kindsIn, onlyRecovery]⟩
  records s f _ h := ⟨.congr (s := s) rfl rfl h.1, .congr (s := s) rfl h.2⟩
  queryTimer s _ _ h := ⟨.congr (s := s) rfl rfl h.1, .congr (s := s) rfl h.2⟩
  installs s bytes d _ _ _ h :=
    ⟨h.1.of_member (QueueEdits.install hd d trivial (plansIn_any _) .refl) (by simp), .of_state (by simp) (by simp)⟩
  recording s t part inPlan h := by
    have state := part.same_state
    refine ⟨?_, h.2.congr state⟩
    cases part with
    | served => exact h.1.edits (QueueEdits.serveClaims (plansIn_joinsAt_self s) .refl) state (not_listen_of_inPlan inPlan)
    | _ => exact h.1.congr (by simp) state
  suspects s why peer h := by
    refine ⟨⟨?_, by simp, fun _ => ?_⟩, .of_peer peer.1⟩
    · exact s.enterSuspect_queue_forall why h.1.idle rfl (fun c mem _ => h.1.idle c mem) fun c mem _ => h.1.idle c mem
    · exact s.enterSuspect_queue_forall why h.1.idle (.inl rfl) (fun c _ is => .inr is) fun c _ is => .inl is
  tile s _ inPlan h := ⟨h.1.edits (QueueEdits.completeTile _ (plansIn_joinsAt_self s) .refl) (by simp)
    (not_listen_of_inPlan inPlan), h.2.congr (by simp)⟩
  claim s b carries inPlan h := by
    refine ⟨h.1.edits (QueueEdits.applyClaim _ _ _ (plansIn_joinsAt_self s) (fun own n => ?_) .refl) (by simp)
      (not_listen_of_inPlan inPlan), h.2.congr (by simp)⟩
    have member := (inPlan_iff.1 inPlan).resolve_right (h.2.claim (by simpa using own) carries.1)
    simp [joinsAt, member]
  release s b _ _ h := ⟨h.1.congr (by simp) (by simp), h.2.congr (by simp)⟩
  bye s _ inPlan h := by
    obtain ⟨u, closes, is⟩ := s.applyBye_cases hd.sender own.isSome
    have state : u.membership.state = s.membership.state := by rcases closes with rfl | ⟨-, rfl⟩ <;> simp
    rw [is]
    split
    · exact ⟨.of_empty (by simp), .of_state (by simp) (by simp)⟩
    · exact ⟨h.1.edits (QueueEdits.byeEffect _ _ (plansIn_joinsAt_self s) closes .refl) state (not_listen_of_inPlan inPlan),
        h.2.congr state⟩
  close s _ inPlan h := ⟨h.1.edits (QueueEdits.closeFrame _ (plansIn_joinsAt_self s) .refl) (by simp)
    (not_listen_of_inPlan inPlan), h.2.congr (by simp)⟩
  asked s _ member h := ⟨h.1.edits (QueueEdits.answerQuery _ (by simp [joinsAt, member]) .refl) (by simp) (by simp [member]),
    h.2.congr (by simp)⟩
  served s d _ member h := ⟨h.1.edits (QueueEdits.requestersServed d .refl) (by simp) (by simp [member]),
    h.2.congr (by simp)⟩

/-! ### The own cell's kind -/

theorem Kind.ofCode_code (k : Kind) : Kind.ofCode k.code = some k := by cases k <;> decide

/-- R111: the kind of the own cell is that of its source. -/
theorem State.Flying.kind_queue {f : Flight} {k : QueueKind} (h : s.Flying f) (source : f.source = .queue k) :
    Kind.ofCode f.cell.header.kind = some k.kind := by
  rw [((State.marksAgree_queue source).1 h.marks).1, Kind.ofCode_code]

theorem State.Flying.kind_store {f : Flight} (h : s.Flying f) (source : f.source = .store) :
    Kind.ofCode f.cell.header.kind = some .tile := by
  obtain ⟨-, e, rest, -, -, -, sent⟩ := (State.marksAgree_store source).1 h.marks
  simp only [State.sentFrom, Bool.and_eq_true, beq_iff_eq] at sent
  obtain ⟨⟨⟨⟨kind, -⟩, -⟩, -⟩, -⟩ := sent
  rw [kind, Kind.ofCode_code]

/-- The own cell stands in the queue it came from. -/
theorem State.Flying.queued {f : Flight} {k : QueueKind} (h : s.Flying f) (source : f.source = .queue k) :
    ∃ c ∈ s.queue, c.kind = k :=
  have ⟨⟨c, mem, kind, _⟩, _⟩ := ((State.marksAgree_queue source).1 h.marks).2.2.1
  ⟨c, mem, kind⟩

/-- R111, R161: the own cell of this kind is the queued one of a kind with this code. -/
theorem State.Flying.source_of_kind {f : Flight} {k : Kind} (h : s.Flying f)
    (kind : Kind.ofCode f.cell.header.kind = some k) (control : k ≠ .tile) :
    ∃ q, f.source = .queue q ∧ q.kind = k := by
  cases source : f.source with
  | queue q => exact ⟨q, rfl, Option.some.inj ((h.kind_queue source).symm.trans kind)⟩
  | store => exact absurd (Option.some.inj ((h.kind_store source).symm.trans kind)).symm control

theorem State.Flying.ownSent {f : Flight} (h : s.Flying f) (kinds : s.recovering → kindsIn onlyRecovery s.queue)
    (state : t.membership.state = s.membership.state) : OwnSent f.cell.header (some f) t := by
  refine ⟨fun _ is => ?_, fun _ claim is => ?_⟩
  · rw [state] at is
    simpa [is, StationState.silent] using h.sends
  · obtain ⟨q, source, kind⟩ := h.source_of_kind claim (by simp)
    obtain ⟨c, mem, rfl⟩ := h.queued source
    rcases kinds (.inr (state ▸ is)) c mem with query | bye
    · simp [query, QueueKind.kind] at kind
    · simp [bye, QueueKind.kind] at kind

theorem State.queueCore_of_lawful (silent : s.silentEmpty = true) (kinds : s.recovering → kindsIn onlyRecovery s.queue)
    (idle : unmarked t.queue) (sub : t.queue.Sublist s.queue) (state : t.membership.state = s.membership.state) :
    t.QueueCore where
  idle := idle
  listen is := by
    have none := (State.silentEmpty_iff.1 silent (by rw [← state, is]; rfl)).queue
    rw [none] at sub
    exact List.sublist_nil.1 sub
  kinds is := fun c mem => kinds ((State.recovering_congr state).1 is) c (sub.subset mem)

theorem State.QueueCore.handOver (c : CellClass) (h : s.QueueCore)
    (sent : ∀ hd p, c.good = some (hd, p) → OwnSent hd own s) : (s.handOver c own).QueueCore := by
  cases c with
  | heard cell => exact (queueCore_units.units ⟨h, sent cell.header _ rfl⟩).1
  | headerHeard hd => exact (queueCore_units.units ⟨h, sent hd none rfl⟩).1
  | damaged => exact h

theorem muted_not_recovering (muted : s.isMuted = true) : ¬ s.recovering := by
  rintro (is | is) <;> simp [State.isMuted, is] at muted

theorem kindsIn_unmark {A : QueueKind → Prop} {q : List QueuedCell} (h : kindsIn A q) : kindsIn A (unmark q) := by
  intro c mem
  obtain ⟨d, member, rfl⟩ := List.mem_map.1 mem
  exact h d member

/-- R113, R23, R20: behind a lost cell no mark is left, and only a MEMBER's slots are served. -/
theorem State.queueCore_lost (sends : s.membership.state.silent = false)
    (kinds : s.recovering → kindsIn onlyRecovery s.queue)
    (src : CellSource) (m : Bool) : (s.ownCellAborted src m).QueueCore := by
  rcases s.ownCellAborted_edits src m (plansIn_joinsAt_self s) with ⟨-, none⟩ | ⟨state, -, edits⟩
  · exact .of_empty none
  · refine ⟨edits.unmarked (unmarked_unmark _), fun is => ?_, fun is => ?_⟩
    · simp [← state, is, StationState.silent] at sends
    · have recovering := (State.recovering_congr state).1 is
      exact edits.kindsIn (fun k joins => absurd joins (joinsAt_recovering recovering)) (kindsIn_unmark (kinds recovering))

theorem queueCore_cell (silent : s.silentEmpty = true) (places : onePerPlace s.queue) (flight : s.flightLawful = true)
    (kinds : s.recovering → kindsIn onlyRecovery s.queue) :
    CellRules s (fun s => s.recovering → kindsIn onlyRecovery s.queue) State.QueueCore where
  stays := kinds
  linkIdle _ := kinds
  taken _ := kinds
  heard j listens := State.queueCore_of_lawful silent kinds (State.listening_afterLink j listens flight).quiet.queue
    (by simp) (by simp)
  peers c t h := h.handOver c fun _ _ _ => .of_peer rfl
  own f ends := by
    obtain ⟨-, idle, flies, -⟩ := State.ends_iff.1 ends
    refine (State.queueCore_of_lawful silent kinds (State.listening_afterOwn ends places flight).quiet.queue
      (f.queue_sublist s) (by simp)).handOver _ fun hd p is => ?_
    cases is
    exact (State.flying_of_lawful flies flight).ownSent kinds (by simp)
  lost f j flies idle := by
    have flying := State.flying_of_lawful flies flight
    exact State.queueCore_lost (by simpa using flying.sends) (by simpa [State.recovering] using kinds) _ _
  settles t h := by simpa [State.recovering] using h.kinds

/-! ### The other commands -/

/-- No command but a cell's end leads to SYNCING or SUSPECT. -/
theorem Event.recovering (part : Event s t) (is : t.recovering) : t.membership.state = s.membership.state := by
  unfold State.recovering at is
  cases part with
  | reset => simp [State.resetAll, State.reset] at is
  | fails d strap =>
    rcases s.strapFailed_cases d with ⟨-, eq⟩ | ⟨-, eq⟩ <;> rw [eq] at is ⊢
    simp at is
  | mismatch => rfl
  | matched => rfl
  | rejoin => simp [State.startSilence, State.setState] at is
  | loads | founds | selfTrusts | fallsBack => simp at is
  | _ => simp

/-- The kinds of the queue do not see the start of a cell. -/
theorem kindsIn_startControl {A : QueueKind → Prop} (c : QueuedCell) (h : kindsIn A s.queue) :
    kindsIn A (s.startControl c).queue := by
  have kinds : (s.startControl c).queue.map QueuedCell.kind = s.queue.map QueuedCell.kind := by
    rw [State.startControl_queue, map_changeFirst]
    exact fun _ => rfl
  intro d mem
  obtain ⟨e, member, same⟩ := List.mem_map.1 (kinds ▸ List.mem_map_of_mem mem)
  exact same ▸ h e member

theorem Event.kinds (part : Event s t) (h : s.recovering → kindsIn onlyRecovery s.queue) (is : t.recovering) :
    kindsIn onlyRecovery t.queue := by
  have recovering : s.recovering := (State.recovering_congr (part.recovering is)).1 is
  rcases part.queue_cases with edits | ⟨-, silent⟩ | ⟨c, -, -, rfl⟩ | ⟨-, rfl⟩
  · exact edits.kindsIn (fun k joins => absurd joins (joinsAt_recovering is)) (h recovering)
  · rcases is with is | is <;> simp [is, StationState.silent] at silent
  · exact kindsIn_startControl c (h recovering)
  · exact (QueueEdits.enqueue (A := (· = .query)) .query rfl (.of_eq rfl)).kindsIn (fun _ is => .inl is) (h recovering)

theorem step_suspectQueue (silent : s.silentEmpty = true) (places : onePerPlace s.queue) (flight : s.flightLawful = true)
    (kinds : s.recovering → kindsIn onlyRecovery s.queue) (next : step s = .next t) :
    t.recovering → kindsIn onlyRecovery t.queue :=
  step_leads (P := fun s => s.recovering → kindsIn onlyRecovery s.queue) next kinds (fun _ => kinds)
    (fun _ _ part => part.kinds) fun rest j =>
      (queueCore_cell (s := { s with pending := rest }) silent places flight kinds).cellEnds j

/-! ### The given numbers -/

/-- R87: the own QUERY, heard, has left the queue. -/
def OwnQueryGone (hd : Header) (own : Option Flight) (s : State) : Prop :=
  own.isSome = true → Kind.ofCode hd.kind = some .query → s.recovering → kindsIn notQuery s.queue

theorem State.GivenLaws.of_other (member : t.membership.state ≠ .member) (recovering : ¬ t.recovering) : t.GivenLaws :=
  ⟨fun is => absurd is member, fun is => absurd is recovering⟩

theorem State.GivenLaws.congr (queue : t.queue = s.queue) (state : t.membership.state = s.membership.state)
    (timer : t.recovery.timerRunning = s.recovery.timerRunning) (h : s.GivenLaws) : t.GivenLaws where
  member := by rw [queue, state]; exact h.member
  recovering := by rw [queue, State.recovering_congr state, timer]; exact h.recovering

/-- Edits that join no QUERY keep the numbers' laws. -/
theorem State.GivenLaws.edits (edits : QueueEdits (joinsAt s.membership.state) s.queue t.queue)
    (state : t.membership.state = s.membership.state)
    (timer : t.recovery.timerRunning = true → s.recovery.timerRunning = true)
    (h : s.GivenLaws) : t.GivenLaws where
  member is := by
    obtain ⟨first, kinds⟩ := h.member (state ▸ is)
    exact ⟨edits.onlyFirstGiven first, edits.kindsIn (fun _ joins => joins.2) kinds⟩
  recovering is := by
    have recovering := (State.recovering_congr state).1 is
    obtain ⟨given, kinds⟩ := h.recovering recovering
    exact ⟨edits.all (fun k joins => absurd joins (joinsAt_recovering recovering)) (fun _ _ => .inl rfl) given,
      fun runs => edits.kindsIn (fun k joins => absurd joins (joinsAt_recovering recovering)) (kinds (timer runs))⟩

/-- R96: behind an install no QUERY is queued, and only the first cell can hold a number. -/
theorem State.GivenLaws.install (bytes : DumpBody) (idle : unmarked s.queue)
    (state : s.membership.state = .syncing ∨ s.membership.state.inPlan = true) (h : s.GivenLaws) :
    (s.install hd bytes).GivenLaws := by
  have edits := s.install_edits (A := joinsAt .member) hd bytes (by simp [joinsAt]) (plansIn_joinsAt fun _ => rfl)
  rw [s.withdraw_queue_unmarked _ idle] at edits
  refine ⟨fun _ => ⟨edits.onlyFirstGiven ?_, edits.kindsIn (fun _ joins => joins.2) fun c mem is => ?_⟩,
    fun is => absurd is (not_recovering_of_member (by simp))⟩
  · by_cases member : s.membership.state = .member
    · exact onlyFirstGiven_sublist List.filter_sublist (h.member member).1
    · have recovering : s.recovering := by
        rcases state with is | is
        · exact .inl is
        · exact .inr ((inPlan_iff.1 is).resolve_left member)
      refine onlyFirstGiven_of_none fun c mem => ?_
      obtain ⟨mem, kept⟩ := List.mem_filter.1 mem
      refine ((h.recovering recovering).1 c mem).resolve_right fun query => ?_
      simp [query] at kept
  · simp [is] at mem

theorem State.GivenLaws.of_fresh_query (queue : t.queue = [⟨.query, none, false⟩]) (timer : t.recovery.timerRunning = false)
    (member : t.membership.state ≠ .member) : t.GivenLaws where
  member is := absurd is member
  recovering _ := ⟨by simp [queue, ungivenUnlessQuery], fun runs => by rw [timer] at runs; cases runs⟩

theorem State.timer_stopped (h : s.timersLawful = true) (not : ¬ s.recovering) : s.recovery.timerRunning = false := by
  by_contra runs
  exact not ((State.timersLawful_iff.1 h).2.1 (by simpa using runs))

/-- The numbers' laws, with the own QUERY gone. -/
def Numbers (hd : Header) (own : Option Flight) (s : State) : Prop := s.GivenLaws ∧ OwnQueryGone hd own s

theorem Numbers.edits (edits : QueueEdits (joinsAt s.membership.state) s.queue t.queue)
    (state : t.membership.state = s.membership.state) (timer : t.recovery.timerRunning = s.recovery.timerRunning)
    (h : Numbers hd own s) : Numbers hd own t := by
  refine ⟨h.1.edits edits state (by rw [timer]; exact id), fun sent query is => ?_⟩
  have recovering := (State.recovering_congr state).1 is
  exact edits.kindsIn (fun k joins => absurd joins (joinsAt_recovering recovering)) (h.2 sent query recovering)

theorem Numbers.same (queue : t.queue = s.queue) (state : t.membership.state = s.membership.state)
    (timer : t.recovery.timerRunning = s.recovery.timerRunning) (h : Numbers hd own s) : Numbers hd own t :=
  h.edits (.of_eq queue) state timer

theorem Numbers.of_other (member : t.membership.state ≠ .member) (recovering : ¬ t.recovering) : Numbers hd own t :=
  ⟨.of_other member recovering, fun _ _ is => absurd is recovering⟩

/-- The numbers' laws hold through the units' rules. -/
theorem numbers_units {p : Option (List Byte)} : UnitRules hd p own fun s =>
    (s.QueueCore ∧ OwnSent hd own s) ∧ s.timersLawful = true ∧ Numbers hd own s where
  count s f h := ⟨queueCore_units.count (p := p) s f h.1, h.2.1, .same (s := s) rfl rfl rfl h.2.2⟩
  mutes s cause why active ne h := ⟨queueCore_units.mutes (p := p) s cause why active ne h.1,
    (timersLawful_units (hd := hd) (p := p) own).mutes s cause why active ne h.2.1,
    .of_other (by simp) (by simp [State.recovering])⟩
  hears s f listen h := by
    refine ⟨queueCore_units.hears (p := p) s f listen h.1,
      (timersLawful_units (hd := hd) (p := p) own).hears s f listen h.2.1, ?_, fun sent => absurd listen (h.1.2.listen sent)⟩
    have stopped := State.timer_stopped h.2.1 (by simp [State.recovering, listen])
    exact .of_fresh_query (s.hears_queue f (h.1.1.listen listen)) (by simpa using stopped) (by simp)
  records s f syncing h := ⟨queueCore_units.records (p := p) s f syncing h.1, h.2.1, .same (s := s) rfl rfl rfl h.2.2⟩
  queryTimer s sent state h := by
    refine ⟨queueCore_units.queryTimer (p := p) s sent state h.1,
      (timersLawful_units (hd := hd) (p := p) own).queryTimer s sent state h.2.1, ⟨h.2.2.1.member, fun is => ?_⟩, h.2.2.2⟩
    exact ⟨(h.2.2.1.recovering is).1, fun _ => h.2.2.2 sent.1 sent.2 is⟩
  installs s bytes d carries usable state h := ⟨queueCore_units.installs s bytes d carries usable state h.1,
    (timersLawful_units own).installs s bytes d carries usable state h.2.1,
    h.2.2.1.install d h.1.1.idle state, fun _ _ is => absurd is (not_recovering_of_member (by simp))⟩
  recording s t part inPlan h := by
    refine ⟨queueCore_units.recording (p := p) s t part inPlan h.1,
      (timersLawful_units (hd := hd) (p := p) own).recording s t part inPlan h.2.1, ?_⟩
    have state := part.same_state
    cases part with
    | served => exact h.2.2.edits (QueueEdits.serveClaims (plansIn_joinsAt_self s) .refl) state (by simp)
    | _ => exact h.2.2.same (by simp) state (by simp)
  suspects s why peer h := by
    refine ⟨queueCore_units.suspects (p := p) s why peer h.1,
      (timersLawful_units (hd := hd) (p := p) own).suspects s why peer h.2.1, ⟨by simp, fun _ => ⟨?_, fun runs => ?_⟩⟩,
      fun sent => by simp [peer.1] at sent⟩
    · exact s.enterSuspect_queue_forall why h.1.1.idle (.inl rfl) (fun _ _ _ => .inl rfl) fun _ _ is => .inr is
    · have stopped := State.timer_stopped h.2.1 (not_recovering_of_member peer.2)
      simp [State.enterSuspect, State.setState, State.forSlots_eq, stopped] at runs
  tile s kind inPlan h := ⟨queueCore_units.tile (p := p) s kind inPlan h.1,
    (timersLawful_units (hd := hd) (p := p) own).tile s kind inPlan h.2.1,
    h.2.2.edits (QueueEdits.completeTile _ (plansIn_joinsAt_self s) .refl) (by simp) (by simp)⟩
  claim s b carries inPlan h := by
    refine ⟨queueCore_units.claim s b carries inPlan h.1, (timersLawful_units own).claim s b carries inPlan h.2.1,
      h.2.2.edits (QueueEdits.applyClaim _ _ _ (plansIn_joinsAt_self s) (fun own n => ?_) .refl) (by simp) (by simp)⟩
    have member := (inPlan_iff.1 inPlan).resolve_right (h.1.2.claim (by simpa using own) carries.1)
    simp [joinsAt, member]
  release s b carries inPlan h := ⟨queueCore_units.release s b carries inPlan h.1,
    (timersLawful_units own).release s b carries inPlan h.2.1, h.2.2.same (by simp) (by simp) (by simp)⟩
  bye s kind inPlan h := by
    refine ⟨queueCore_units.bye (p := p) s kind inPlan h.1,
      (timersLawful_units (hd := hd) (p := p) own).bye s kind inPlan h.2.1, ?_⟩
    obtain ⟨u, closes, is⟩ := s.applyBye_cases hd.sender own.isSome
    rw [is]
    split
    · exact .of_other (by simp) (by simp [State.recovering])
    · exact h.2.2.edits (QueueEdits.byeEffect _ _ (plansIn_joinsAt_self s) closes .refl)
        (by rcases closes with rfl | ⟨-, rfl⟩ <;> simp) (by rcases closes with rfl | ⟨-, rfl⟩ <;> simp)
  close s kind inPlan h := ⟨queueCore_units.close (p := p) s kind inPlan h.1,
    (timersLawful_units (hd := hd) (p := p) own).close s kind inPlan h.2.1,
    h.2.2.edits (QueueEdits.closeFrame _ (plansIn_joinsAt_self s) .refl) (by simp) (by simp)⟩
  asked s peer member h := ⟨queueCore_units.asked (p := p) s peer member h.1,
    (timersLawful_units (hd := hd) (p := p) own).asked s peer member h.2.1,
    h.2.2.edits (QueueEdits.answerQuery _ (by simp [joinsAt, member]) .refl) (by simp) (by simp)⟩
  served s d kind member h := ⟨queueCore_units.served (p := p) s d kind member h.1,
    (timersLawful_units (hd := hd) (p := p) own).served s d kind member h.2.1,
    h.2.2.edits (QueueEdits.requestersServed d .refl) (by simp) (by simp)⟩

/-- What the units see of the numbers at a cell's end. -/
structure State.NumbersCore (s : State) : Prop where
  core : s.QueueCore
  timers : s.timersLawful = true
  given : s.GivenLaws

theorem State.NumbersCore.handOver (c : CellClass) (h : s.NumbersCore)
    (sent : ∀ hd p, c.good = some (hd, p) → OwnSent hd own s ∧ OwnQueryGone hd own s) : (s.handOver c own).NumbersCore := by
  have units (hd p) (good : c.good = some (hd, p)) : (s.units hd p own).NumbersCore :=
    have kept := numbers_units.units (p := p) ⟨⟨h.core, (sent hd p good).1⟩, h.timers, h.given, (sent hd p good).2⟩
    ⟨kept.1.1, kept.2.1, kept.2.2.1⟩
  cases c with
  | heard cell => exact units cell.header _ rfl
  | headerHeard hd => exact units hd none rfl
  | damaged => exact h

/-- Fewer queued cells, in the same state, keep the numbers' laws. -/
theorem State.GivenLaws.sublist (sub : t.queue.Sublist s.queue) (state : t.membership.state = s.membership.state)
    (timer : t.recovery.timerRunning = s.recovery.timerRunning) (h : s.GivenLaws) : t.GivenLaws where
  member is :=
    have ⟨first, kinds⟩ := h.member (state ▸ is)
    ⟨onlyFirstGiven_sublist sub first, fun c mem => kinds c (sub.subset mem)⟩
  recovering is :=
    have ⟨given, kinds⟩ := h.recovering ((State.recovering_congr state).1 is)
    ⟨fun c mem => given c (sub.subset mem), fun runs c mem => kinds (timer ▸ runs) c (sub.subset mem)⟩

/-- The marks say nothing of the numbers. -/
theorem State.GivenLaws.unmarked (queue : t.queue = unmark s.queue) (state : t.membership.state = s.membership.state)
    (timer : t.recovery.timerRunning = s.recovery.timerRunning) (h : s.GivenLaws) : t.GivenLaws where
  member is := by
    obtain ⟨first, kinds⟩ := h.member (state ▸ is)
    refine ⟨fun c mem => ?_, queue ▸ kindsIn_unmark kinds⟩
    rw [queue, unmark, ← List.map_drop] at mem
    obtain ⟨d, member, rfl⟩ := List.mem_map.1 mem
    exact first d member
  recovering is := by
    obtain ⟨given, kinds⟩ := h.recovering ((State.recovering_congr state).1 is)
    refine ⟨fun c mem => ?_, fun runs => queue ▸ kindsIn_unmark (kinds (timer ▸ runs))⟩
    rw [queue] at mem
    obtain ⟨d, member, rfl⟩ := List.mem_map.1 mem
    exact given d member

theorem State.GivenLaws.lost (src : CellSource) (m : Bool) (h : s.GivenLaws) : (s.ownCellAborted src m).GivenLaws := by
  rcases s.ownCellAborted_edits src m (plansIn_joinsAt_self s) with ⟨muted, -⟩ | ⟨state, recovery, edits⟩
  · exact .of_other (fun is => by simp [State.isMuted, is] at muted) (muted_not_recovering muted)
  · have cleared : State.GivenLaws { s with queue := unmark s.queue } := h.unmarked rfl rfl rfl
    exact State.GivenLaws.edits (s := { s with queue := unmark s.queue }) edits state (by rw [recovery]; exact id) cleared

theorem State.Flying.ownQueryGone {f : Flight} (h : s.Flying f) (places : onePerPlace s.queue) :
    OwnQueryGone f.cell.header (some f) (s.afterOwn f) := by
  intro _ query _
  obtain ⟨k, source, kind⟩ := h.source_of_kind query (by simp)
  have is : k = .query := by cases k <;> simp_all [QueueKind.kind]
  rw [State.afterOwn_queue source, places.eraseP_kind k, is]
  intro c mem
  simpa [notQuery] using (List.mem_filter.1 mem).2

theorem numbers_cell (silent : s.silentEmpty = true) (timers : s.timersLawful = true) (places : onePerPlace s.queue)
    (flight : s.flightLawful = true) (kinds : s.recovering → kindsIn onlyRecovery s.queue) (given : s.GivenLaws) :
    CellRules s State.GivenLaws State.NumbersCore where
  stays := given
  linkIdle _ := .congr (s := s) rfl rfl rfl given
  taken _ := given.congr (by simp) (by simp) (by simp)
  heard j listens := ⟨(queueCore_cell silent places flight kinds).heard j listens,
    State.timersLawful_silenceRuns (by simp) (by simp) (by simp) (by simp) timers,
    given.congr (by simp) (by simp) (by simp)⟩
  peers c t h := h.handOver c fun _ _ _ => ⟨.of_peer rfl, fun sent => absurd sent (by simp)⟩
  own f ends := by
    obtain ⟨-, idle, flies, -⟩ := State.ends_iff.1 ends
    have flying := State.flying_of_lawful flies flight
    have core := State.queueCore_of_lawful silent kinds (State.listening_afterOwn ends places flight).quiet.queue
      (f.queue_sublist s) (by simp)
    refine State.NumbersCore.handOver _ ⟨core,
      State.timersLawful_silenceRuns (by simp) (by simp) (by simp) (by simp) timers,
      given.sublist (f.queue_sublist s) (by simp) (by simp)⟩ fun hd p is => ?_
    cases is
    exact ⟨flying.ownSent kinds (by simp), flying.ownQueryGone places⟩
  lost f j flies idle := ⟨(queueCore_cell silent places flight kinds).lost f j flies idle,
    State.timersLawful_lost _ _ (State.timersLawful_silenceRuns (by simp) (by simp) (by simp) (by simp) timers),
    (given.congr (t := s.afterLost f j) (by simp) (by simp) (by simp)).lost _ _⟩
  settles t h := h.given.congr (by simp) (by simp) (by simp)

/-! ### The other commands -/

/-- No command but a cell's end starts the query timer. -/
theorem Event.timer_started (part : Event s t) (runs : t.recovery.timerRunning = true) : s.recovery.timerRunning = true := by
  cases part with
  | reset => simp [State.resetAll, State.reset] at runs
  | fails d strap =>
    rcases s.strapFailed_cases d with ⟨-, is⟩ | ⟨-, is⟩ <;> rw [is] at runs
    · exact runs
    · simp at runs
  | queryRepeats | selfTrusts | fallsBack => simp at runs
  | queryTimerStops => simp [State.setQueryTimer] at runs
  | rejoin => simp [State.startSilence, State.setState, State.clearPlan, State.setSilence] at runs
  | mismatch => exact runs
  | matched => exact runs
  | _ => simpa using runs

/-- A station becomes MEMBER from LISTEN, or when its query timer expires. -/
theorem Event.enters_member (part : Event s t) (member : t.membership.state = .member)
    (other : s.membership.state ≠ .member) :
    s.membership.state = .listen ∨ (s.recovering ∧ s.recovery.timerRunning = true) := by
  cases part with
  | reset => simp [State.resetAll, State.reset] at member
  | fails d strap =>
    rcases s.strapFailed_cases d with ⟨-, is⟩ | ⟨-, is⟩ <;> rw [is] at member
    · exact absurd member other
    · simp at member
  | founds listen => exact .inl listen
  | selfTrusts suspect running => exact .inr ⟨.inr suspect, running⟩
  | fallsBack syncing running => exact .inr ⟨.inl syncing, running⟩
  | rejoin => simp [State.startSilence, State.setState] at member
  | loads => simp at member
  | mismatch => exact absurd member other
  | matched => exact absurd member other
  | _ => exact absurd (by simpa using member) other

/-- R170: a MEMBER sends the head of its queue, a recovering station its QUERY. -/
theorem State.selected_queue {k : QueueKind} (selected : s.selected = some (.queue k)) :
    (s.membership.state = .member ∧ ∃ c rest, s.queue = c :: rest ∧ c.kind = k) ∨ (s.recovering ∧ k = .query) := by
  unfold State.selected at selected
  unfold State.recovering
  cases state : s.membership.state <;> simp only [state] at selected
  case member =>
    cases queue : s.queue with
    | nil => cases store : s.store <;> simp [queue, store] at selected
    | cons c rest => exact .inl ⟨rfl, c, rest, rfl, by simpa [queue] using selected⟩
  case syncing =>
    split at selected
    · exact .inr ⟨.inl rfl, by simpa using selected.symm⟩
    · cases selected
  case suspect =>
    split at selected
    · exact .inr ⟨.inr rfl, by simpa using selected.symm⟩
    · cases selected
  all_goals cases selected

theorem mem_changeFirst {α : Type} {p : α → Bool} {f : α → α} {a : α} {l : List α} (mem : a ∈ changeFirst p f l) :
    a ∈ l ∨ ∃ b ∈ l, p b = true ∧ a = f b := by
  induction l with
  | nil => cases mem
  | cons b rest ih =>
    unfold changeFirst at mem
    split at mem
    · next holds =>
      rcases List.mem_cons.1 mem with is | mem
      · exact .inr ⟨b, List.mem_cons_self, holds, is⟩
      · exact .inl (List.mem_cons_of_mem b mem)
    · rcases List.mem_cons.1 mem with is | mem
      · exact .inl (is ▸ List.mem_cons_self)
      · exact (ih mem).imp (List.mem_cons_of_mem b) fun ⟨c, mem, holds, is⟩ => ⟨c, List.mem_cons_of_mem b mem, holds, is⟩

theorem State.GivenLaws.startControl {c : QueuedCell} (selected : s.selected = some (.queue c.kind)) (h : s.GivenLaws) :
    (s.startControl c).GivenLaws := by
  refine ⟨fun is => ?_, fun is => ?_⟩
  · obtain ⟨first, kinds⟩ := h.member (by simpa using is)
    refine ⟨?_, kindsIn_startControl c kinds⟩
    rcases s.selected_queue selected with ⟨-, d, rest, queue, kind⟩ | ⟨recovering, -⟩
    · rw [State.startControl_queue, queue, changeFirst, if_pos (by simp [kind])]
      rw [queue] at first
      exact first
    · exact absurd recovering (not_recovering_of_member (by simpa using is))
  · obtain ⟨given, kinds⟩ := h.recovering (by simpa [State.recovering] using is)
    refine ⟨fun d mem => ?_, fun runs => kindsIn_startControl c (kinds (by simpa using runs))⟩
    have query : c.kind = .query := by
      rcases s.selected_queue selected with ⟨member, -⟩ | ⟨-, query⟩
      · exact absurd (by simpa [State.recovering] using is) (not_recovering_of_member member)
      · exact query
    rw [State.startControl_queue] at mem
    rcases mem_changeFirst mem with mem | ⟨e, -, same, rfl⟩
    · exact given d mem
    · exact .inr ((beq_iff_eq.1 same).trans query)

theorem Event.givenLaws (part : Event s t) (silent : s.silentEmpty = true) (timers : s.timersLawful = true)
    (h : s.GivenLaws) : t.GivenLaws := by
  rcases part.queue_cases with edits | ⟨-, silent⟩ | ⟨c, selected, first, rfl⟩ | ⟨running, rfl⟩
  · by_cases state : t.membership.state = s.membership.state
    · exact h.edits (state ▸ edits) state part.timer_started
    · refine ⟨fun member => ?_, fun is => absurd (part.recovering is) state⟩
      have clear : (∀ c ∈ s.queue, c.given = none) ∧ kindsIn notQuery s.queue := by
        rcases part.enters_member member (fun is => state (member.trans is.symm)) with listen | ⟨recovering, running⟩
        · simp [(State.silentEmpty_iff.1 silent (by rw [listen]; rfl)).queue, kindsIn]
        · obtain ⟨given, kinds⟩ := h.recovering recovering
          exact ⟨fun c mem => (given c mem).resolve_right (kinds running c mem), kinds running⟩
      exact ⟨edits.onlyFirstGiven (onlyFirstGiven_of_none clear.1), edits.kindsIn (fun _ joins => joins.2) clear.2⟩
  · exact .of_other (fun is => by simp [is, StationState.silent] at silent)
      (by rintro (is | is) <;> simp [is, StationState.silent] at silent)
  · exact h.startControl selected
  · have recovering : s.recovering := (State.timersLawful_iff.1 timers).2.1 running
    refine ⟨fun is => ?_, fun _ => ⟨?_, fun runs => ?_⟩⟩
    · exact absurd recovering (not_recovering_of_member (by simpa using is))
    · exact (QueueEdits.enqueue (A := (· = .query)) .query rfl (.of_eq rfl)).all (fun _ is => .inr is)
        (fun _ _ => .inl rfl) (h.recovering recovering).1
    · simp at runs

theorem step_givenLaws (silent : s.silentEmpty = true) (timers : s.timersLawful = true) (places : onePerPlace s.queue)
    (flight : s.flightLawful = true) (kinds : s.recovering → kindsIn onlyRecovery s.queue) (given : s.GivenLaws)
    (next : step s = .next t) : t.GivenLaws :=
  (step_leads (P := fun s => s.GivenLaws ∧ s.silentEmpty = true ∧ s.timersLawful = true) next ⟨given, silent, timers⟩
    (fun _ => ⟨.congr (s := s) rfl rfl rfl given, silent, timers⟩)
    (fun _ _ part h => ⟨part.givenLaws h.2.1 h.2.2 h.1, part.silentEmpty h.2.2 h.2.1, part.timersLawful h.2.2⟩)
    fun rest j => ⟨(numbers_cell (s := { s with pending := rest }) silent timers places flight kinds
        (.congr (s := s) rfl rfl rfl given)).cellEnds j,
      (silentEmpty_cell (s := { s with pending := rest }) silent).cellEnds j,
      (timersLawful_cell (s := { s with pending := rest }) timers).cellEnds j⟩).1

/-- Settles O55: edits of the queue keep one cell in each place; no command but a cell's end leads to SYNCING or SUSPECT,
and there the plan's cells leave and the numbers are returned. -/
theorem everyStepKeepsTheQueueLawful : Obligations.EveryStepKeepsTheQueueLawful := by
  unfold Obligations.EveryStepKeepsTheQueueLawful
  simp only [State.queuePlaces_iff, State.suspectQueue_iff, State.givenLawful_iff]
  refine ⟨fun s t places next => ?_, fun s t timers silent places flight kinds next => ?_,
    fun s t timers silent places flight kinds given next => ?_⟩
  · have places := step_onePerPlace next places
    exact ⟨places, places.length_le⟩
  · exact step_suspectQueue silent places flight kinds next
  · have given := step_givenLaws silent timers places flight kinds given next
    exact ⟨given, given.count_given (step_onePerPlace next places) (step_silentEmpty timers silent next)⟩

end Given

end Sys2Proof.Machine
end

section
set_option Elab.async false
/-! O60: the roster's ages (R61, R63), and the image that a started station runs on (R172, R176, R179, R180). -/

namespace Sys2Proof.Machine

section Roster

variable {s t : State}

/-! ### Roster entries -/

theorem rosterEntryLawful_iff {timeout : Nat} {e : RosterEntry} :
    rosterEntryLawful timeout e = true ↔
      (e.present = true → e.age < timeout) ∧ (e.present = false → e.age = 0 ∧ e.heard = false) := by
  unfold rosterEntryLawful
  cases e.present <;> simp

theorem State.rosterLawful_iff :
    s.rosterLawful = true ↔ ∀ i, rosterEntryLawful s.rosterTimeout (s.rosterAt i) = true := by
  have all : ∀ i : Station, i ∈ stationOrder := by decide
  simp only [State.rosterLawful, List.all_eq_true]
  exact ⟨fun h i => h i (all i), fun h i _ => h i⟩

theorem rosterEntryLawful_reset (timeout : Nat) : rosterEntryLawful timeout RosterEntry.reset = true := rfl

theorem agedEntry_lawful {timeout : Nat} {e : RosterEntry} (own : Bool) (h : rosterEntryLawful timeout e = true) :
    rosterEntryLawful timeout (agedEntry timeout own e) = true := by
  rw [rosterEntryLawful_iff] at h ⊢
  by_cases aged : e.present = true ∧ own = false
  · obtain ⟨present, rfl⟩ := aged
    rw [agedEntry_present present]
    by_cases reached : timeout ≤ (if e.heard then 0 else e.age + 1)
    · simp [if_pos reached]
    · rw [if_neg reached]
      exact ⟨fun _ => Nat.lt_of_not_le reached, fun absent => by simp [present] at absent⟩
  · rw [agedEntry_unaged aged]
    exact ⟨h.1, fun absent => ⟨(h.2 absent).1, rfl⟩⟩

theorem installedRoster_lawful (timeout : Nat) (e : RosterEntry) :
    rosterEntryLawful timeout (installedRoster timeout e) = true := by
  rw [rosterEntryLawful_iff]
  unfold installedRoster
  split
  · next kept =>
    simp only [Bool.and_eq_true, decide_eq_true_eq] at kept
    exact ⟨fun _ => kept.2, fun absent => by simp [kept.1] at absent⟩
  · simp

theorem State.dumpRoster_lawful (s : State) (h : Header) (d : DumpBody) (i : Station) :
    rosterEntryLawful s.rosterTimeout (s.dumpRoster h d)[i] = true := by
  have installed := installedRoster_lawful s.rosterTimeout d.roster[i]
  rw [State.dumpRoster, tab16_get]
  simp only []
  split
  · rw [rosterEntryLawful_iff] at installed ⊢
    exact ⟨installed.1, fun absent => ⟨(installed.2 absent).1, by
      simp only [Bool.or_eq_false_iff]
      exact ⟨(installed.2 absent).2, absent⟩⟩⟩
  · exact installed

/-- R176, R177: an image that passes has a roster timeout of at least 3. -/
theorem rosterTimeout_of_passes {words : List Word} (passes : judgeImage words = none) : 3 ≤ strapRosterTimeout words := by
  unfold judgeImage judgeFields at passes
  split at passes
  · cases passes
  split at passes
  · cases passes
  split at passes
  · cases passes
  split at passes
  · cases passes
  split at passes
  · cases passes
  next high =>
    simp only [Bool.or_eq_true, decide_eq_true_eq, not_or] at high
    omega

/-! ### A started station -/

theorem State.started_iff :
    s.started = true ↔ s.membership.state ≠ .strap ∧ s.membership.state ≠ .muted .strap := by
  simp [State.started]

/-- R172, R179: a station that is not started holds the reset values of its plan, roster and recovery. -/
structure State.Blank (s : State) : Prop where
  words : s.strap.words = List.replicate 36 0
  claims : s.claims = State.reset.claims
  frame : s.frame = State.reset.frame
  roster : s.membership.roster = State.reset.membership.roster
  sequence : s.membership.sequence = 0
  recovery : s.recovery = State.reset.recovery

theorem State.strapValid_iff : s.strapValid = true ↔ (s.started = true → judgeImage s.strap.words = none) := by
  simp [State.strapValid, imp_iff_not_or]

theorem State.unloadedBlank_iff : s.unloadedBlank = true ↔ (s.started = false → s.Blank) := by
  simp only [State.unloadedBlank, Bool.or_eq_true, Bool.and_eq_true, beq_iff_eq]
  cases s.started
  · simp only [Bool.false_eq_true, false_or, true_imp_iff]
    exact ⟨fun ⟨⟨⟨⟨⟨w, c⟩, f⟩, r⟩, q⟩, v⟩ => ⟨w, c, f, r, q, v⟩, fun ⟨w, c, f, r, q, v⟩ => ⟨⟨⟨⟨⟨w, c⟩, f⟩, r⟩, q⟩, v⟩⟩
  · simp

/-- The laws of the load and of the roster. -/
structure State.LoadLaws (s : State) : Prop where
  valid : s.started = true → judgeImage s.strap.words = none
  blank : s.started = false → s.Blank
  roster : ∀ i, rosterEntryLawful s.rosterTimeout (s.rosterAt i) = true

/-- What a started station does leaves it started, with the same image. -/
theorem State.LoadLaws.of_started (h : s.LoadLaws) (started : s.started = true)
    (words : t.strap.words = s.strap.words) (stays : t.started = true)
    (roster : ∀ i, rosterEntryLawful s.rosterTimeout (t.rosterAt i) = true) : t.LoadLaws where
  valid _ := words ▸ h.valid started
  blank is := by rw [stays] at is; cases is
  roster i := by rw [State.rosterTimeout, words]; exact roster i

theorem State.rosterAt_congr (roster : t.membership.roster = s.membership.roster) (i : Station) :
    t.rosterAt i = s.rosterAt i := by rw [State.rosterAt, roster, State.rosterAt]

theorem State.LoadLaws.same_roster (h : s.LoadLaws) (started : s.started = true)
    (words : t.strap.words = s.strap.words) (stays : t.started = true)
    (roster : t.membership.roster = s.membership.roster) : t.LoadLaws :=
  h.of_started started words stays fun i => State.rosterAt_congr roster i ▸ h.roster i

theorem State.started_congr (state : t.membership.state = s.membership.state) : t.started = s.started := by
  simp [State.started, state]

theorem State.started_of_inPlan (inPlan : s.membership.state.inPlan = true) : s.started = true := by
  rcases inPlan_iff.1 inPlan with is | is <;> simp [State.started, is]

theorem State.started_of_sends (sends : s.membership.state.silent = false) : s.started = true := by
  rw [State.started_iff]
  constructor <;> intro is <;> simp [is, StationState.silent] at sends

/-- R61, R63: at a started station the timeout is not 0. -/
theorem State.LoadLaws.timeout_pos (h : s.LoadLaws) (started : s.started = true) : 0 < s.rosterTimeout :=
  Nat.lt_of_lt_of_le (by decide) (rosterTimeout_of_passes (h.valid started))

/-- Everything the law speaks of unchanged. -/
theorem State.LoadLaws.congr (h : s.LoadLaws) (claims : t.claims = s.claims) (frame : t.frame = s.frame)
    (recovery : t.recovery = s.recovery) (words : t.strap.words = s.strap.words)
    (state : t.membership.state = s.membership.state) (roster : t.membership.roster = s.membership.roster)
    (sequence : t.membership.sequence = s.membership.sequence) : t.LoadLaws where
  valid is := words ▸ h.valid (State.started_congr state ▸ is)
  blank is :=
    have ⟨w, c, f, r, q, v⟩ := h.blank (State.started_congr state ▸ is)
    ⟨words.trans w, claims.trans c, frame.trans f, roster.trans r, sequence.trans q, recovery.trans v⟩
  roster i := by rw [State.rosterTimeout, words, State.rosterAt_congr roster i]; exact h.roster i

theorem State.setRoster_lawful (h : s.LoadLaws) (i : Station) {e : RosterEntry}
    (lawful : rosterEntryLawful s.rosterTimeout e = true) (j : Station) :
    rosterEntryLawful s.rosterTimeout ((s.setRoster i e).rosterAt j) = true := by
  rw [State.setRoster_rosterAt]
  split
  · exact lawful
  · exact h.roster j

theorem Recording.loadLaws (part : Recording s t) (inPlan : s.membership.state.inPlan = true) (h : s.LoadLaws) :
    t.LoadLaws := by
  have started := State.started_of_inPlan inPlan
  have stays : t.started = true := by rw [State.started_congr part.same_state]; exact started
  have pos := h.timeout_pos started
  have fresh {e : RosterEntry} (present : e.present = true) (age : e.age = 0) :
      rosterEntryLawful s.rosterTimeout e = true := by
    rw [rosterEntryLawful_iff]
    exact ⟨fun _ => age ▸ pos, fun absent => by simp [present] at absent⟩
  cases part with
  | live i =>
    unfold State.live
    split
    · next present =>
      refine h.of_started started (by simp) (State.started_of_inPlan (by simpa using inPlan)) (State.setRoster_lawful h i ?_)
      rw [rosterEntryLawful_iff]
      exact ⟨(rosterEntryLawful_iff.1 (h.roster i)).1, fun absent => by cases present.symm.trans absent⟩
    · exact h
  | sequence i q =>
    refine h.of_started started (by simp) stays (State.setRoster_lawful h i ?_)
    rw [rosterEntryLawful_iff]
    exact rosterEntryLawful_iff.1 (h.roster i)
  | count f => exact h.congr rfl rfl rfl rfl rfl rfl rfl
  | ownPresent => exact h.of_started started (by simp) stays (State.setRoster_lawful h _ (fresh rfl rfl))
  | served => exact h.same_roster started (by simp) stays (by simp)
  | admits i => exact h.of_started started (by simp) stays (State.setRoster_lawful h i (fresh rfl rfl))

theorem State.LoadLaws.closeFrame (c : CloseCause) (h : s.LoadLaws) (started : s.started = true) :
    (s.closeFrame c).LoadLaws :=
  h.of_started started (by simp) (by simpa [State.started] using started) fun i => by
    rw [s.closeFrame_rosterAt]
    exact agedEntry_lawful _ (h.roster i)

theorem State.LoadLaws.completeTile (k : TileKey) (h : s.LoadLaws) (started : s.started = true) :
    (s.completeTile k).LoadLaws := by
  have taken (o : List TileKey) : State.LoadLaws { s with frame := { s.frame with outstanding := o } } :=
    h.same_roster started rfl started rfl
  rcases s.completeTile_cases k with ⟨-, is⟩ | ⟨-, ⟨-, is⟩ | ⟨-, is⟩⟩ <;> rw [is]
  · exact h
  · exact taken _
  · exact (taken _).closeFrame .last started

/-- R73: the sender's age becomes one less than the timeout. -/
theorem State.LoadLaws.byeEffect (i : Station) (own : Bool) (h : s.LoadLaws) (started : s.started = true) :
    (s.byeEffect i own).LoadLaws := by
  have stays : (s.byeEffect i own).started = true := by rwa [State.started_congr (s := s) (by simp)]
  unfold State.byeEffect at stays ⊢
  simp only [] at stays ⊢
  split at stays
  · next is => rw [if_pos is]; exact h.same_roster started (by simp) stays (by simp)
  · next is =>
    rw [if_neg is]
    have table : State.LoadLaws { s.byeTable i with
        frame := { s.frame with outstanding := s.frame.outstanding.filter fun k => !(k.owner == i) } } :=
      h.same_roster started (by simp) (by simpa [State.started] using started) (by simp)
    unfold State.byeRoster
    split
    · next present =>
      refine table.of_started (by simpa [State.started] using started) (by simp) (by simpa [State.started] using started)
        (State.setRoster_lawful table i ?_)
      rw [rosterEntryLawful_iff]
      have pos := table.timeout_pos (by simpa [State.started] using started)
      exact ⟨fun _ => Nat.sub_lt pos Nat.one_pos, fun absent => by cases present.symm.trans absent⟩
    · exact table

theorem State.LoadLaws.reset_roster (h : s.LoadLaws) (started : s.started = true) (words : t.strap.words = s.strap.words)
    (stays : t.started = true) (roster : t.membership.roster = tab16 fun _ => RosterEntry.reset) : t.LoadLaws :=
  h.of_started started words stays fun i => by
    rw [State.rosterAt, roster, tab16_get]
    exact rosterEntryLawful_reset _

theorem loadLaws_units {hd : Header} {p : Option (List Byte)} (own : Option Flight) : UnitRules hd p own State.LoadLaws where
  count s f h := h.congr rfl rfl rfl rfl rfl rfl rfl
  mutes s cause why active ne h := by
    refine h.same_roster (State.started_iff.2 ⟨active.1, fun is => ?_⟩) (by simp) (by simp [State.started, ne]) (by simp)
    have unmuted := active.2
    simp [State.isMuted, is] at unmuted
  hears s f listen h := h.same_roster (by simp [State.started, listen]) (by simp) (by simp [State.started]) (by simp)
  records s f syncing h := h.same_roster (by simp [State.started, syncing]) rfl (by simp [State.started, syncing]) rfl
  queryTimer s _ state h := by
    have started : s.started = true := by rcases state with is | is <;> simp [State.started, is]
    exact h.same_roster started rfl started rfl
  installs s bytes d _ _ state h := by
    have started : s.started = true := by
      rcases state with is | is
      · simp [State.started, is]
      · exact State.started_of_inPlan is
    refine h.of_started started (by simp) (by simp [State.started]) fun i => ?_
    have roster : (s.install hd d).membership.roster = s.dumpRoster hd d := by
      simp only [State.install]
      split <;> simp [State.forSlots_eq, State.installPlan]
    rw [State.rosterAt, roster]
    exact s.dumpRoster_lawful hd d i
  recording s t part inPlan h := part.loadLaws inPlan h
  suspects s why member h := h.same_roster (by simp [State.started, member]) (by simp) (by simp [State.started]) (by simp)
  tile s _ inPlan h := h.completeTile _ (State.started_of_inPlan inPlan)
  claim s b _ inPlan h := h.same_roster (State.started_of_inPlan inPlan) (by simp)
    (State.started_of_inPlan (by simpa using inPlan)) (by simp)
  release s b _ inPlan h := h.same_roster (State.started_of_inPlan inPlan) (by simp)
    (State.started_of_inPlan (by simpa using inPlan)) (by simp)
  bye s _ inPlan h := by
    have started := State.started_of_inPlan inPlan
    obtain ⟨u, closes, is⟩ := s.applyBye_cases hd.sender own.isSome
    have effect := h.byeEffect hd.sender own.isSome started
    have effect_started : (s.byeEffect hd.sender own.isSome).started = true := by
      rwa [State.started_congr (s := s) (by simp)]
    have laws : u.LoadLaws ∧ u.started = true := by
      rcases closes with rfl | ⟨-, rfl⟩
      · exact ⟨effect, effect_started⟩
      · exact ⟨effect.closeFrame .bye effect_started, by
          rw [State.started_congr (s := s.byeEffect hd.sender own.isSome) (by simp)]; exact effect_started⟩
    rw [is]
    split
    · exact laws.1.reset_roster laws.2 (by simp) (by simp [State.started]) (by simp)
    · exact laws.1
  close s _ inPlan h := h.closeFrame _ (State.started_of_inPlan inPlan)
  asked s _ member h := h.same_roster (by simp [State.started, member]) (by simp) (by simp [State.started, member]) (by simp)
  served s d _ member h := h.same_roster (by simp [State.started, member]) (by simp)
    (by simp [State.started, member]) (by simp)

theorem loadLaws_cell (silent : s.silentEmpty = true) (h : s.LoadLaws) : CellRules s State.LoadLaws State.LoadLaws where
  stays := h
  linkIdle _ := h.congr rfl rfl rfl rfl rfl rfl rfl
  taken _ := h.congr (by simp) (by simp) (by simp) (by simp) (by simp) (by simp) rfl
  heard j _ := h.congr (by simp) (by simp) (by simp) (by simp) (by simp) (by simp) (by simp)
  peers c t := UnitRules.handOver (loadLaws_units none) c
  own f _ := UnitRules.handOver (loadLaws_units (some f)) _
    (h.congr (by simp) (by simp) (by simp) (by simp) (by simp) (by simp) (by simp))
  lost f j flight _ := by
    have started : (s.afterLost f j).started = true := by
      rw [State.started_congr (s := s) (by simp)]
      exact State.started_of_sends (State.sends_of_flight flight silent)
    have laws : (s.afterLost f j).LoadLaws :=
      h.congr (by simp) (by simp) (by simp) (by simp) (by simp) (by simp) (by simp)
    rcases (s.afterLost f j).ownCellAborted_cases f.source (f.report == .mismatched) with
      ⟨-, is⟩ | ⟨-, -, is⟩ | ⟨-, n, -, is⟩ | ⟨-, k, -, -, is⟩ <;> rw [is]
    · exact laws.same_roster started (by simp) (by simp [State.started]) (by simp)
    all_goals exact laws.same_roster started (by simp) (by simpa [State.started] using started) (by simp)
  settles t h := h.congr (by simp) (by simp) (by simp) (by simp) (by simp) (by simp) (by simp)

theorem State.started_of_allows (allows : stateAllows s.membership.state 6 = true) : s.started = true := by
  rw [State.started_iff]
  constructor <;> intro is <;> simp [is, stateAllows, stateAllows.slotsAllowed] at allows

theorem State.LoadLaws.of_blank (blank : t.Blank) (unstarted : t.started = false) : t.LoadLaws where
  valid is := by rw [unstarted] at is; cases is
  blank _ := blank
  roster i := by
    rw [State.rosterAt, blank.roster]
    simp only [State.reset]
    rw [tab16_get]
    exact rosterEntryLawful_reset _

theorem State.Blank.congr (h : s.Blank) (claims : t.claims = s.claims) (frame : t.frame = s.frame)
    (recovery : t.recovery = s.recovery) (words : t.strap.words = s.strap.words)
    (roster : t.membership.roster = s.membership.roster) (sequence : t.membership.sequence = s.membership.sequence) :
    t.Blank :=
  ⟨words.trans h.words, claims.trans h.claims, frame.trans h.frame, roster.trans h.roster, sequence.trans h.sequence,
    recovery.trans h.recovery⟩

/-- R182: a passing image starts the station on a roster of reset values. -/
theorem State.LoadLaws.enterListen {words : List Word} (strap : s.membership.state = .strap)
    (passes : judgeImage words = none) (h : s.LoadLaws) : (s.enterListen words).LoadLaws where
  valid _ := by simpa using passes
  blank is := by simp [State.started] at is
  roster i := by
    have blank := h.blank (by simp [State.started, strap])
    have roster : (s.enterListen words).membership.roster = s.membership.roster := by simp
    rw [State.rosterAt, roster, blank.roster]
    simp only [State.reset]
    rw [tab16_get]
    exact rosterEntryLawful_reset _

theorem State.LoadLaws.strapFailed (d : StrapDetail) (strap : s.membership.state = .strap) (h : s.LoadLaws) :
    (s.strapFailed d).LoadLaws := by
  have blank := h.blank (by simp [State.started, strap])
  rcases s.strapFailed_cases d with ⟨-, is⟩ | ⟨-, is⟩ <;> rw [is]
  · exact .of_blank (blank.congr rfl rfl rfl rfl rfl rfl) (by simp [State.started, strap])
  · refine .of_blank ⟨?_, ?_, ?_, ?_, ?_, ?_⟩ (by simp [State.started])
    · simpa using blank.words
    · simpa using blank.claims
    · simp [blank.frame, State.reset]
    · simpa using blank.roster
    · simpa using blank.sequence
    · simp [blank.recovery, State.reset]

/-- A stopped timer that is stopped once more. -/
theorem State.LoadLaws.frameTimerStops (h : s.LoadLaws) : (s.setFrameTimer false).LoadLaws := by
  cases started : s.started
  · have blank := h.blank started
    refine .of_blank ⟨blank.words, blank.claims, ?_, blank.roster, blank.sequence, blank.recovery⟩ started
    simp [State.setFrameTimer, blank.frame, State.reset]
  · exact h.same_roster started rfl started rfl

theorem State.LoadLaws.queryTimerStops (h : s.LoadLaws) : (s.setQueryTimer false).LoadLaws := by
  cases started : s.started
  · have blank := h.blank started
    refine .of_blank ⟨blank.words, blank.claims, blank.frame, blank.roster, blank.sequence, ?_⟩ started
    simp [State.setQueryTimer, blank.recovery, State.reset]
  · exact h.same_roster started rfl started rfl

theorem Event.loadLaws (part : Event s t) (timers : s.timersLawful = true) (h : s.LoadLaws) : t.LoadLaws := by
  have kept (started : s.started = true) (words : t.strap.words = s.strap.words)
      (state : t.membership.state = s.membership.state) (roster : t.membership.roster = s.membership.roster) : t.LoadLaws :=
    h.same_roster started words (by rwa [State.started_congr state]) roster
  cases part with
  | reset => exact .of_blank ⟨rfl, rfl, rfl, rfl, rfl, rfl⟩ rfl
  | loads words strap passes => exact h.enterListen strap passes
  | fails d strap => exact h.strapFailed d strap
  | founds listen => exact h.same_roster (by simp [State.started, listen]) (by simp) (by simp [State.started]) (by simp)
  | selfTrusts suspect =>
    exact h.same_roster (by simp [State.started, suspect]) (by simp) (by simp [State.started]) (by simp)
  | fallsBack syncing =>
    exact h.reset_roster (by simp [State.started, syncing]) (by simp) (by simp [State.started]) (by simp)
  | rejoin left => exact h.reset_roster (by simp [State.started, left]) rfl rfl rfl
  | frameTimerStops => exact h.frameTimerStops
  | queryTimerStops => exact h.queryTimerStops
  | closeQueued member => exact kept (by simp [State.started, member]) (by simp) (by simp) (by simp)
  | leave member => exact kept (by simp [State.started, member]) (by simp) (by simp) (by simp)
  | queryRepeats running =>
    have started : s.started = true := by
      rcases (State.timersLawful_iff.1 timers).2.1 running with is | is <;> simp [State.started, is]
    exact kept started (by simp) (by simp) (by simp)
  | slotOff n allows => exact kept (State.started_of_allows allows) (by simp) (by simp) (by simp)
  | slotOn n allows => exact kept (State.started_of_allows allows) (by simp) (by simp) (by simp)
  | slotSet n sl _ _ allows => exact kept (State.started_of_allows allows) (by simp) (by simp) (by simp)
  | control c selected =>
    exact kept (State.started_of_sends (State.sends_of_selected selected)) rfl (by simp) (by simp)
  | tile e rest selected =>
    exact kept (State.started_of_sends (State.sends_of_selected selected)) rfl (by simp) (by simp)
  | port | resetLine | signals | mismatch | matched | markDone | slot | sensor =>
    exact h.congr rfl rfl rfl rfl rfl rfl rfl
  | _ => exact h.congr (by simp) (by simp) (by simp) (by simp) (by simp) (by simp) (by simp)

theorem step_loadLaws (timers : s.timersLawful = true) (silent : s.silentEmpty = true) (h : s.LoadLaws)
    (next : step s = .next t) : t.LoadLaws :=
  (step_leads (P := fun s => s.LoadLaws ∧ s.timersLawful = true) next ⟨h, timers⟩
    (fun _ => ⟨h.congr rfl rfl rfl rfl rfl rfl rfl, timers⟩)
    (fun _ _ part h => ⟨part.loadLaws h.2 h.1, part.timersLawful h.2⟩)
    fun rest j => ⟨(loadLaws_cell (s := { s with pending := rest }) silent (h.congr rfl rfl rfl rfl rfl rfl rfl)).cellEnds j,
      (timersLawful_cell (s := { s with pending := rest }) timers).cellEnds j⟩).1

/-- Settles O60: what a started station does keeps its image and the ages below the timeout, and nothing but the end of
a load starts it. -/
theorem everyStepKeepsTheRosterLawful : Obligations.EveryStepKeepsTheRosterLawful := by
  unfold Obligations.EveryStepKeepsTheRosterLawful
  simp only [State.rosterLawful_iff, State.strapValid_iff, State.unloadedBlank_iff]
  intro s t valid blank timers silent roster next
  have laws := step_loadLaws timers silent ⟨valid, blank, roster⟩ next
  exact ⟨laws.roster, laws.valid, laws.blank⟩

end Roster

end Sys2Proof.Machine
end

section
set_option Elab.async false
/-! O59: contexts and stored rows with the tiles of the current frame (R132, R136, R141, R143, R147, R155, R158). -/

namespace Sys2Proof.Machine

section Tiles

variable {s t : State}

/-! ### The laws, as statements -/

/-- R132, R135, R136, R141, R143, R147, R155, R158: what contexts and stored rows agree on. -/
structure State.TileLaws (s : State) : Prop where
  outside : s.membership.state.inPlan = false → s.store = [] ∧ ∀ n, s.contextAt n = .idle
  contextFrame : ∀ n f, (s.contextAt n).frame? = some f → f = s.frame.number
  storeFrame : ∀ e ∈ s.store, e.frame = s.frame.number
  stored : ∀ e ∈ s.store, s.isOutstanding (s.ownKey e.slot) = true
  working : ∀ n, (s.contextAt n).atWork = true → s.isOutstanding (s.ownKey n) = true
  done : ∀ e ∈ s.store, e.sort.isLast = true → (s.contextAt e.slot).isDone = true
  last : lastEntriesLast s.store = true

theorem forall_mem_slotOrder {p : SlotNo → Prop} : (∀ n ∈ slotOrder, p n) ↔ ∀ n, p n := by
  have all : ∀ n : SlotNo, n ∈ slotOrder := by decide
  exact ⟨fun h n => h n (all n), fun h n _ => h n⟩

theorem State.framesAgree_iff :
    s.framesAgree = true ↔ (s.membership.state.inPlan = false → s.store = [] ∧ ∀ n, s.contextAt n = .idle) ∧
      (∀ n f, (s.contextAt n).frame? = some f → f = s.frame.number) ∧ ∀ e ∈ s.store, e.frame = s.frame.number := by
  simp only [State.framesAgree, Bool.and_eq_true, Bool.or_eq_true, List.all_eq_true, beq_iff_eq, forall_mem_slotOrder,
    List.isEmpty_iff, and_assoc]
  refine and_congr (by cases s.membership.state.inPlan <;> simp) (and_congr (forall_congr' fun n => ?_) Iff.rfl)
  cases (s.contextAt n).frame? <;> simp

theorem State.tilesLawful_iff :
    s.tilesLawful = true ↔ (∀ e ∈ s.store, s.isOutstanding (s.ownKey e.slot) = true) ∧
      (∀ n, (s.contextAt n).atWork = true → s.isOutstanding (s.ownKey n) = true) ∧
      (∀ e ∈ s.store, e.sort.isLast = true → (s.contextAt e.slot).isDone = true) ∧ lastEntriesLast s.store = true := by
  simp only [State.tilesLawful, Bool.and_eq_true, List.all_eq_true, forall_mem_slotOrder, Bool.or_eq_true,
    Bool.not_eq_true', and_assoc, ← imp_iff_not_or, ← Bool.not_eq_true]

theorem State.tileLaws_iff : s.framesAgree = true ∧ s.tilesLawful = true ↔ s.TileLaws := by
  rw [State.framesAgree_iff, State.tilesLawful_iff]
  exact ⟨fun ⟨⟨a, b, c⟩, d, e, f, g⟩ => ⟨a, b, c, d, e, f, g⟩,
    fun h => ⟨⟨h.outside, h.contextFrame, h.storeFrame⟩, h.stored, h.working, h.done, h.last⟩⟩

/-! ### The store's order -/

theorem lastEntriesLast_cons {e : StoreEntry} {l : List StoreEntry} :
    lastEntriesLast (e :: l) = true ↔ (e.sort.isLast = true → ∀ x ∈ l, x.slot ≠ e.slot) ∧ lastEntriesLast l = true := by
  simp only [lastEntriesLast, Bool.and_eq_true, Bool.or_eq_true, Bool.not_eq_true', List.all_eq_true]
  cases e.sort.isLast <;> simp

/-- An entry's tile, frame and sort: what the laws see of it. -/
def StoreEntry.bare (e : StoreEntry) : StoreEntry := { e with inFlight := false }

theorem lastEntriesLast_bare (l : List StoreEntry) : lastEntriesLast (l.map StoreEntry.bare) = lastEntriesLast l := by
  induction l with
  | nil => rfl
  | cons e l ih => simp [lastEntriesLast, ih, StoreEntry.bare, List.all_map, Function.comp_def]

theorem lastEntriesLast_sublist {l m : List StoreEntry} (sub : l.Sublist m) (h : lastEntriesLast m = true) :
    lastEntriesLast l = true := by
  induction sub with
  | slnil => rfl
  | cons a _ ih => exact ih (lastEntriesLast_cons.1 h).2
  | cons_cons a sub ih =>
    obtain ⟨first, rest⟩ := lastEntriesLast_cons.1 h
    exact lastEntriesLast_cons.2 ⟨fun last x mem => first last x (sub.subset mem), ih rest⟩

theorem lastEntriesLast_append {l : List StoreEntry} {e : StoreEntry}
    (fresh : ∀ x ∈ l, x.sort.isLast = true → x.slot ≠ e.slot) (h : lastEntriesLast l = true) :
    lastEntriesLast (l ++ [e]) = true := by
  induction l with
  | nil => simp [lastEntriesLast]
  | cons a l ih =>
    obtain ⟨first, rest⟩ := lastEntriesLast_cons.1 h
    refine lastEntriesLast_cons.2 ⟨fun last x mem => ?_, ih (fun x mem => fresh x (List.mem_cons_of_mem a mem)) rest⟩
    rcases List.mem_append.1 mem with mem | mem
    · exact first last x mem
    · rw [List.mem_singleton.1 mem]
      exact (fresh a List.mem_cons_self last).symm

theorem StoreSort.isLast_of_isMarker {x : StoreSort} (marker : x.isMarker = true) : x.isLast = true := by
  cases x <;> simp_all [StoreSort.isMarker, StoreSort.isLast]

/-- R154, R158: at most one LAST entry of a tile waits, so at most four end markers. -/
theorem storeMarkers_le {l : List StoreEntry} (h : lastEntriesLast l = true) : storeMarkers l ≤ 4 := by
  have slots : ((l.filter fun e => e.sort.isMarker).map StoreEntry.slot).Nodup := by
    induction l with
    | nil => exact List.nodup_nil
    | cons a l ih =>
      obtain ⟨first, rest⟩ := lastEntriesLast_cons.1 h
      cases marker : a.sort.isMarker
      · rw [List.filter_cons_of_neg (by simp [marker])]
        exact ih rest
      · rw [List.filter_cons_of_pos (by simpa using marker), List.map_cons, List.nodup_cons]
        refine ⟨fun mem => ?_, ih rest⟩
        obtain ⟨x, mem, same⟩ := List.mem_map.1 mem
        exact first (StoreSort.isLast_of_isMarker marker) x (List.mem_of_mem_filter mem) same
  have few := slots.length_le_card
  rwa [List.length_map, Fintype.card_fin, ← List.countP_eq_length_filter] at few

/-! ### What keeps the laws -/

/-- A station without a stored row and with every context idle. -/
theorem State.TileLaws.of_empty (store : t.store = []) (idle : ∀ n, t.contextAt n = .idle) : t.TileLaws where
  outside _ := ⟨store, idle⟩
  contextFrame n f is := by rw [idle n] at is; cases is
  storeFrame e mem := by rw [store] at mem; cases mem
  stored e mem := by rw [store] at mem; cases mem
  working n works := by rw [idle n] at works; cases works
  done e mem := by rw [store] at mem; cases mem
  last := by rw [store]; rfl

theorem State.isOutstanding_ownKey_congr (frame : t.frame.outstanding = s.frame.outstanding)
    (words : t.strap.words = s.strap.words)
    (n : SlotNo) : t.isOutstanding (t.ownKey n) = s.isOutstanding (s.ownKey n) := by
  rw [State.isOutstanding, State.isOutstanding, frame, State.ownKey, State.ownKey, State.own_congr words]

theorem State.contextAt_congr (contexts : t.capture.contexts = s.capture.contexts) (n : SlotNo) :
    t.contextAt n = s.contextAt n := by rw [State.contextAt, contexts, State.contextAt]

theorem mem_of_bare_sublist {l m : List StoreEntry} (sub : (l.map StoreEntry.bare).Sublist (m.map StoreEntry.bare))
    {e : StoreEntry} (mem : e ∈ l) : ∃ d ∈ m, d.slot = e.slot ∧ d.frame = e.frame ∧ d.sort = e.sort := by
  obtain ⟨d, member, same⟩ := List.mem_map.1 (sub.subset (List.mem_map_of_mem mem))
  simp only [StoreEntry.bare, StoreEntry.mk.injEq] at same
  exact ⟨d, member, same.1, same.2.1, same.2.2.2.1⟩

/-- Fewer stored rows, whatever their marks, in the same frame and with the same contexts. -/
theorem State.TileLaws.fewer (h : s.TileLaws) (inPlan : t.membership.state.inPlan = s.membership.state.inPlan)
    (frame : t.frame.number = s.frame.number) (outstanding : t.frame.outstanding = s.frame.outstanding)
    (words : t.strap.words = s.strap.words) (contexts : t.capture.contexts = s.capture.contexts)
    (store : (t.store.map StoreEntry.bare).Sublist (s.store.map StoreEntry.bare)) : t.TileLaws where
  outside out := by
    obtain ⟨none, idle⟩ := h.outside (inPlan ▸ out)
    rw [none] at store
    exact ⟨by simpa using store, fun n => State.contextAt_congr contexts n ▸ idle n⟩
  contextFrame n f is := frame ▸ h.contextFrame n f (State.contextAt_congr contexts n ▸ is)
  storeFrame e mem := by
    obtain ⟨d, mem, -, same, -⟩ := mem_of_bare_sublist store mem
    rw [← same, frame]; exact h.storeFrame d mem
  stored e mem := by
    obtain ⟨d, mem, same, -, -⟩ := mem_of_bare_sublist store mem
    rw [State.isOutstanding_ownKey_congr outstanding words, ← same]; exact h.stored d mem
  working n works := by
    rw [State.isOutstanding_ownKey_congr outstanding words]
    exact h.working n (State.contextAt_congr contexts n ▸ works)
  done e mem isLast := by
    obtain ⟨d, mem, slot, -, sort⟩ := mem_of_bare_sublist store mem
    rw [State.contextAt_congr contexts, ← slot]
    exact h.done d mem (sort ▸ isLast)
  last := by
    rw [← lastEntriesLast_bare]
    exact lastEntriesLast_sublist store (lastEntriesLast_bare s.store ▸ h.last)

theorem State.TileLaws.congr (h : s.TileLaws) (inPlan : t.membership.state.inPlan = s.membership.state.inPlan)
    (frame : t.frame.number = s.frame.number) (outstanding : t.frame.outstanding = s.frame.outstanding)
    (words : t.strap.words = s.strap.words) (contexts : t.capture.contexts = s.capture.contexts)
    (store : t.store = s.store) : t.TileLaws :=
  h.fewer inPlan frame outstanding words contexts (by rw [store])

/-- R132, R135, R155: what is entered from outside the plan holds no row and no context at work. -/
theorem State.TileLaws.from_outside (h : s.TileLaws) (out : s.membership.state.inPlan = false) (store : t.store = s.store)
    (contexts : t.capture.contexts = s.capture.contexts) : t.TileLaws :=
  .of_empty (store.trans (h.outside out).1) fun n => State.contextAt_congr contexts n ▸ (h.outside out).2 n

/-- Fewer outstanding tiles, where no stored row and no context at work is of one that goes. -/
theorem State.TileLaws.fewer_outstanding (h : s.TileLaws) (o : List TileKey)
    (stored : ∀ e ∈ s.store, o.contains (s.ownKey e.slot) = true)
    (working : ∀ n, (s.contextAt n).atWork = true → o.contains (s.ownKey n) = true) :
    State.TileLaws { s with frame := { s.frame with outstanding := o } } where
  outside := h.outside
  contextFrame := h.contextFrame
  storeFrame := h.storeFrame
  stored := stored
  working := working
  done := h.done
  last := h.last

/-! ### A close -/

/-- R146, R147: the cut takes the tile's rows of the closed frame out of the store. -/
theorem cutSlot_store_eq (f : Word) (s : State) (n : SlotNo) :
    (cutSlot f s n).store = s.store.filter fun e => !(e.slot == n && e.frame == f) := by
  unfold cutSlot
  split
  · simp [State.purge]
  · next finished =>
    simp only [State.unfinished, Bool.or_eq_true, not_or, Bool.not_eq_true, List.any_eq_false] at finished
    exact (List.filter_eq_self.2 fun e mem => by simpa [imp_iff_not_or] using finished.2 e mem).symm

/-- R146, R147: a close by CLOSE leaves no row of the closed frame. -/
theorem State.cutFrame_store_empty (s : State) (f : Word) (frames : ∀ e ∈ s.store, e.frame = f) :
    (s.cutFrame f .close).store = [] := by
  rw [List.eq_nil_iff_forall_not_mem]
  intro e mem
  simp only [State.cutFrame, State.forSlots_eq, cutSlot_store_eq, List.mem_filter] at mem
  obtain ⟨⟨⟨⟨mem, not0⟩, not1⟩, not2⟩, not3⟩ := mem
  rw [frames e mem] at not0 not1 not2 not3
  have slots : ∀ n : SlotNo, n = 0 ∨ n = 1 ∨ n = 2 ∨ n = 3 := by decide
  rcases slots e.slot with is | is | is | is <;> simp [is] at not0 not1 not2 not3

theorem State.closeFrame_contextAt (c : CloseCause) (n : SlotNo) :
    (s.closeFrame c).contextAt n =
      if (s.closeFrame c).isOutstanding (s.ownKey n) then .armed (s.frame.number + 1) else .idle := by
  have out : ((s.openPlan.cutFrame s.frame.number c).isOutstanding ((s.openPlan.cutFrame s.frame.number c).ownKey n)) =
      (s.closeFrame c).isOutstanding (s.ownKey n) := by
    simp [State.isOutstanding, State.ownKey, State.own]
  rw [← out, s.closeFrame_eq]
  simp only [State.contextAt, State.purge_capture, State.armContexts]
  rw [tab4_get]
  simp

/-- R44, R136, R147: behind a close no row of the closed frame waits, and the contexts are armed for the new one. -/
theorem State.TileLaws.closeFrame (c : CloseCause) (inPlan : s.membership.state.inPlan = true)
    (closed : (c = .close ∧ ∀ e ∈ s.store, e.frame = s.frame.number) ∨ s.store = []) : (s.closeFrame c).TileLaws := by
  have store : (s.closeFrame c).store = [] := by
    rcases closed with ⟨rfl, frames⟩ | none
    · have cut : (s.openPlan.cutFrame s.frame.number .close).store = [] :=
        s.openPlan.cutFrame_store_empty _ (by simpa using frames)
      rw [s.closeFrame_eq]
      refine List.sublist_nil.1 ((State.purge_store_sublist _ _).trans ?_)
      simp [cut]
    · exact List.sublist_nil.1 (none ▸ s.closeFrame_store_sublist c)
  refine ⟨fun out => ?_, fun n f is => ?_, ?_, ?_, fun n works => ?_, ?_, by rw [store]; rfl⟩
  · simp [inPlan] at out
  · rw [s.closeFrame_contextAt c n] at is
    split at is
    · simpa [Context.frame?] using is.symm
    · cases is
  · simp [store]
  · simp [store]
  · rw [s.closeFrame_contextAt c n] at works
    split at works
    · next out => simpa [State.ownKey, State.own] using out
    · cases works
  · simp [store]

/-! ### A completed tile and a BYE -/

/-- R39, R41: a set of tiles goes, with no stored row and no context at work of one of them; an emptied set closes the
frame. -/
theorem State.TileLaws.completeTile {k : TileKey} (h : s.TileLaws) (inPlan : s.membership.state.inPlan = true)
    (stored : ∀ e ∈ s.store, s.ownKey e.slot ≠ k) (working : ∀ n, (s.contextAt n).atWork = true → s.ownKey n ≠ k) :
    (s.completeTile k).TileLaws := by
  have taken : State.TileLaws { s with frame := { s.frame with
      outstanding := s.frame.outstanding.filter fun x => !(x == k) } } := by
    refine h.fewer_outstanding _ (fun e mem => ?_) fun n works => ?_
    · simpa using ⟨by simpa [State.isOutstanding] using h.stored e mem, stored e mem⟩
    · simpa using ⟨by simpa [State.isOutstanding] using h.working n works, working n works⟩
  rcases s.completeTile_cases k with ⟨-, is⟩ | ⟨-, ⟨-, is⟩ | ⟨none, is⟩⟩ <;> rw [is]
  · exact h
  · exact taken
  · refine State.TileLaws.closeFrame .last inPlan (.inr ?_)
    rw [List.eq_nil_iff_forall_not_mem]
    intro e mem
    have out := taken.stored e mem
    rw [State.isOutstanding, none] at out
    cases out

/-- R41: another station's BYE takes that station's tiles. -/
theorem State.TileLaws.byeEffect {i : Station} {u : State} (own : Bool) (h : s.TileLaws)
    (inPlan : s.membership.state.inPlan = true) (other : i ≠ s.own)
    (is : u = s.byeEffect i own ∨
      (s.byeEffect i own).frame.outstanding = [] ∧ u = (s.byeEffect i own).closeFrame .bye) : u.TileLaws := by
  have taken : State.TileLaws { s with frame := { s.frame with
      outstanding := s.frame.outstanding.filter fun k => !(k.owner == i) } } := by
    refine h.fewer_outstanding _ (fun e mem => ?_) fun n works => ?_
    · simpa using ⟨by simpa [State.isOutstanding] using h.stored e mem, fun same => other same.symm⟩
    · simpa using ⟨by simpa [State.isOutstanding] using h.working n works, fun same => other same.symm⟩
  have effect : (s.byeEffect i own).TileLaws := taken.congr (by simp) (by simp) (by simp) (by simp) (by simp) (by simp)
  rcases is with rfl | ⟨none, rfl⟩
  · exact effect
  · refine State.TileLaws.closeFrame .bye (by simpa using inPlan) (.inr ?_)
    rw [List.eq_nil_iff_forall_not_mem]
    intro e mem
    have out := effect.stored e mem
    rw [State.isOutstanding, none] at out
    cases out

/-! ### An install -/

theorem State.install_capture (s : State) (hd : Header) (d : DumpBody) :
    (s.install hd d).capture = ((s.installPlan hd d).installLocal).capture := by
  unfold State.install
  cases s.isMember <;> simp [State.forSlots_eq]

theorem State.installLocal_contextAt (s : State) (n : SlotNo) :
    s.installLocal.contextAt n =
      if s.awaited n then (if (s.contextAt n).frame? = some s.frame.number then s.contextAt n else .armed s.frame.number)
      else .idle := by
  simp only [State.installLocal, State.contextAt]
  rw [tab4_get]
  by_cases awaited : s.awaited n = true
  · by_cases kept : s.capture.contexts[n].frame? = some s.frame.number <;> simp_all
  · simp [awaited]

theorem State.mem_installLocal_store {s : State} {e : StoreEntry} :
    e ∈ s.installLocal.store ↔ e ∈ s.store ∧ e.frame = s.frame.number ∧ s.awaited e.slot = true := by
  simp [State.installLocal, State.purge]

theorem State.outstanding_of_awaited {n : SlotNo} (awaited : s.awaited n = true) : s.isOutstanding (s.ownKey n) = true :=
  (Bool.and_eq_true_iff.1 awaited).2

/-- R93, R94: what the installed frame still waits for stays: rows and contexts of that frame, and fresh contexts. -/
theorem State.TileLaws.install (hd : Header) (d : DumpBody) (h : s.TileLaws) : (s.install hd d).TileLaws := by
  have number : (s.installPlan hd d).frame.number = hd.frame := rfl
  have context (n : SlotNo) : (s.install hd d).contextAt n =
      if (s.installPlan hd d).awaited n then
        (if (s.contextAt n).frame? = some hd.frame then s.contextAt n else .armed hd.frame)
      else .idle := by
    rw [State.contextAt_congr (s := (s.installPlan hd d).installLocal) (by rw [s.install_capture]) n,
      State.installLocal_contextAt, number]
    rfl
  have outstanding {n : SlotNo} (awaited : (s.installPlan hd d).awaited n = true) :
      (s.install hd d).isOutstanding ((s.install hd d).ownKey n) = true := by
    rw [State.isOutstanding_ownKey_congr (s := s.installPlan hd d) (by simp [State.installPlan]) (by simp)]
    exact State.outstanding_of_awaited awaited
  have row {e : StoreEntry} (mem : e ∈ (s.install hd d).store) :
      e ∈ s.store ∧ e.frame = hd.frame ∧ (s.installPlan hd d).awaited e.slot = true := by
    rw [s.install_store] at mem
    exact State.mem_installLocal_store.1 mem
  refine ⟨fun out => ?_, fun n f is => ?_, fun e mem => ?_, fun e mem => ?_, fun n works => ?_, fun e mem isLast => ?_, ?_⟩
  · simp [StationState.inPlan] at out
  · rw [context n] at is
    simp only [State.install_frameUnit]
    split at is
    · split at is
      · next kept => exact (Option.some.inj (kept.symm.trans is)).symm
      · exact (Option.some.inj is).symm
    · cases is
  · simpa using (row mem).2.1
  · exact outstanding (row mem).2.2
  · rw [context n] at works
    split at works
    · next awaited => exact outstanding awaited
    · cases works
  · obtain ⟨old, frame, awaited⟩ := row mem
    have done := h.done e old isLast
    have kept : (s.contextAt e.slot).frame? = some hd.frame := by
      cases is : s.contextAt e.slot with
      | done f => rw [Context.frame?, h.contextFrame e.slot f (by rw [is]; rfl), ← h.storeFrame e old, frame]
      | _ => simp [is, Context.isDone] at done
    rw [context, if_pos awaited, if_pos kept]
    exact done
  · exact lastEntriesLast_sublist (s.install_store_sublist hd d) h.last

/-! ### The units -/

/-- What is known of a TILE heard: another station's names another owner; the own one with LAST left no row of its tile
behind, and its context is at work no more. -/
def TileGone (hd : Header) (own : Option Flight) (s : State) : Prop :=
  hd.sender ≠ s.own ∨ (own.isSome = true ∧ (Kind.ofCode hd.kind = some .tile → hd.last = true →
    (∀ e ∈ s.store, e.slot ≠ hd.tileSlot) ∧ (s.contextAt hd.tileSlot).atWork = false))

theorem TileGone.congr {hd : Header} {own : Option Flight} (words : t.strap.words = s.strap.words)
    (contexts : t.capture.contexts = s.capture.contexts) (store : t.store = s.store) (h : TileGone hd own s) :
    TileGone hd own t := by
  unfold TileGone
  rw [State.own_congr words, store, State.contextAt_congr contexts]
  exact h

/-- The laws hold through the units' rules. -/
theorem tileLaws_units {hd : Header} {p : Option (List Byte)} (own : Option Flight) :
    UnitRules hd p own (fun s => s.TileLaws ∧ TileGone hd own s) State.TileLaws where
  leads s h := h.1
  count s f h := ⟨h.1.congr rfl rfl rfl rfl rfl rfl, h.2.congr rfl rfl rfl⟩
  mutes s cause why _ _ _ := .of_empty (by simp) fun n => (State.empty_enterMuted cause why).contexts n
  hears s f listen h := h.1.from_outside (by simp [listen, StationState.inPlan]) (by simp) (by simp)
  records s f _ h := ⟨h.1.congr rfl rfl rfl rfl rfl rfl, h.2.congr rfl rfl rfl⟩
  queryTimer s _ _ h := h.1.congr rfl rfl rfl rfl rfl rfl
  installs s bytes d _ _ _ h := h.1.install hd d
  recording s t part _ h := by
    have words : t.strap.words = s.strap.words := by cases part <;> simp
    have contexts : t.capture.contexts = s.capture.contexts := by cases part <;> simp
    have store : t.store = s.store := by cases part <;> simp
    have frame : t.frame = s.frame := by cases part <;> simp
    exact ⟨h.1.congr (by rw [part.same_state]) (by rw [frame]) (by rw [frame]) words contexts store,
      h.2.congr words contexts store⟩
  suspects s why peer h :=
    ⟨h.1.congr (by simp [peer.2, StationState.inPlan]) (by simp) (by simp) (by simp) (by simp) (by simp),
      h.2.congr (by simp) (by simp) (by simp)⟩
  tile s carries inPlan h := by
    refine h.1.completeTile inPlan (fun e mem same => ?_) fun n works same => ?_
    · rcases h.2 with other | ⟨-, gone⟩
      · exact other (congrArg TileKey.owner same).symm
      · exact (gone carries.1 carries.2).1 e mem (congrArg TileKey.slot same)
    · rcases h.2 with other | ⟨-, gone⟩
      · exact other (congrArg TileKey.owner same).symm
      · rw [show n = hd.tileSlot from congrArg TileKey.slot same, (gone carries.1 carries.2).2] at works
        cases works
  claim s b _ _ h := h.1.congr (by simp) (by simp) (by simp) (by simp) (by simp) (by simp)
  release s b _ _ h := h.1.congr (by simp) (by simp) (by simp) (by simp) (by simp) (by simp)
  bye s _ inPlan h := by
    obtain ⟨u, closes, is⟩ := s.applyBye_cases hd.sender own.isSome
    rw [is]
    split
    · exact .of_empty (by simp) fun n => by
        simp only [State.contextAt, State.enterLeft_capture]
        exact tab4_get _ n
    · next peer => exact h.1.byeEffect _ inPlan (h.2.resolve_right fun sent => peer sent.1) closes
  close s _ inPlan h := State.TileLaws.closeFrame .close inPlan (.inl ⟨rfl, h.1.storeFrame⟩)
  asked s _ _ h := h.1.congr (by simp) (by simp) (by simp) (by simp) (by simp) (by simp)
  served s d _ _ h := ⟨h.1.congr (by simp) (by simp) (by simp) (by simp) (by simp) (by simp),
    h.2.congr (by simp) (by simp) (by simp)⟩

/-! ### The cell's end -/

/-- R76: a cell with the own number that the station did not send mutes it, where it is not muted and past STRAP. -/
theorem units_duplicate {hd : Header} (p : Option (List Byte)) (same : hd.sender = s.own) :
    s.units hd p none = s ∨ (s.membership.state ≠ .strap ∧ s.isMuted = false ∧
      s.units hd p none = s.enterMuted .duplicate .duplicate) := by
  have duplicate : s.duplicate hd none = true := by simp [State.duplicate, same]
  unfold State.units
  cases state : s.membership.state <;> simp [duplicate, State.isMuted, state]

/-- A cell that the station did not send: it mutes, or the units take it from another station. -/
theorem handOver_peer {R : State → Prop} (c : CellClass)
    (peer : ∀ hd p, hd.sender ≠ s.own → R (s.units hd p none)) (stays : R s)
    (mutes : s.membership.state ≠ .strap → s.isMuted = false → R (s.enterMuted .duplicate .duplicate)) :
    R (s.handOver c none) := by
  have good (hd : Header) (p : Option (List Byte)) : R (s.units hd p none) := by
    by_cases same : hd.sender = s.own
    · rcases units_duplicate p same with is | ⟨active, unmuted, is⟩
      · rw [is]; exact stays
      · rw [is]; exact mutes active unmuted
    · exact peer hd p same
  cases c with
  | heard cell => exact good _ _
  | headerHeard hd => exact good _ _
  | damaged => exact stays

theorem State.TileLaws.muted (c : MuteCause) (w : StateCause) : (s.enterMuted c w).TileLaws :=
  .of_empty (by simp) fun n => (State.empty_enterMuted c w).contexts n

theorem State.TileLaws.takeIntoUse (h : s.TileLaws) : s.takeIntoUse.TileLaws :=
  h.congr (by simp) (by simp) (by simp) (by simp) (by simp) (by simp)

theorem State.TileLaws.afterOwn (f : Flight) (h : s.TileLaws) : (s.afterOwn f).TileLaws := by
  refine h.fewer (by simp) (by simp) (by simp) (by simp) (by simp) (List.Sublist.map _ ?_)
  rw [State.afterOwn]
  cases f.source
  · exact .refl _
  · exact List.drop_sublist 1 _

/-- R158: the own TILE with LAST was its tile's last entry, and its context has ended. -/
theorem State.TileLaws.tileGone {f : Flight} (h : s.TileLaws) (flying : s.Flying f) :
    TileGone f.cell.header (some f) (s.afterOwn f) := by
  refine .inr ⟨rfl, fun kind isLast => ?_⟩
  cases source : f.source with
  | queue k =>
    obtain ⟨code, -⟩ := (State.marksAgree_queue source).1 flying.marks
    rw [code, Kind.ofCode_code] at kind
    cases k <;> cases kind
  | store =>
    obtain ⟨-, e, rest, store, -, -, sent⟩ := (State.marksAgree_store source).1 flying.marks
    simp only [State.sentFrom, Bool.and_eq_true, beq_iff_eq] at sent
    obtain ⟨⟨-, last⟩, slot⟩ := sent
    have mem : e ∈ s.store := store ▸ List.mem_cons_self
    rw [isLast] at last
    have order := h.last
    rw [store, lastEntriesLast_cons] at order
    refine ⟨fun x x_mem => ?_, ?_⟩
    · rw [(State.afterOwn_store source).2, store] at x_mem
      exact slot ▸ order.1 last.symm x x_mem
    · have done := h.done e mem last.symm
      rw [slot, State.contextAt_congr (s := s) (by simp)]
      cases is : s.contextAt e.slot <;> simp [is, Context.isDone, Context.atWork] at done ⊢

theorem State.TileLaws.afterLost (src : CellSource) (m : Bool) (h : s.TileLaws) : (s.ownCellAborted src m).TileLaws := by
  have cleared : (s.marksCleared m).TileLaws :=
    h.fewer (by simp) (by simp) (by simp) (by simp) (by simp) (by
      rw [show (s.marksCleared m).store.map StoreEntry.bare = s.store.map StoreEntry.bare by
        simp [State.marksCleared, StoreEntry.bare, Function.comp_def]])
  rcases s.ownCellAborted_cases src m with ⟨-, is⟩ | ⟨-, -, is⟩ | ⟨-, n, -, is⟩ | ⟨-, k, -, -, is⟩ <;> rw [is]
  · exact .muted _ _
  · exact cleared
  all_goals exact cleared.congr (by simp) (by simp) (by simp) (by simp) (by simp) (by simp)

theorem tileLaws_cell (flight : s.flightLawful = true) (h : s.TileLaws) :
    CellRules s State.TileLaws State.TileLaws where
  stays := h
  linkIdle _ := h.congr rfl rfl rfl rfl rfl rfl
  taken _ := h.congr rfl rfl rfl rfl rfl rfl
  heard j _ := h.congr (by simp) (by simp) (by simp) (by simp) (by simp) (by simp)
  peers c t h := handOver_peer c (fun _ _ other => (tileLaws_units none).units ⟨h, .inl other⟩) h fun _ _ => .muted _ _
  own f ends := by
    obtain ⟨-, idle, flying, -⟩ := State.ends_iff.1 ends
    exact (tileLaws_units (some f)).units ⟨h.afterOwn f, h.tileGone (State.flying_of_lawful flying flight)⟩
  lost f j _ _ := State.TileLaws.afterLost _ _ (h.congr (by simp) (by simp) (by simp) (by simp) (by simp) (by simp))
  settles t h := h.congr (by simp) (by simp) (by simp) (by simp) (by simp) (by simp)

/-! ### The other commands -/

theorem Context.not_done_of_atWork {c : Context} (works : c.atWork = true) : c.isDone = false := by
  cases c <;> simp [Context.atWork, Context.isDone] at works ⊢

/-- R137, R141 to R143: a context at work goes on with its tile; a row or an end marker of that tile can join the store,
the last one behind a context that has ended. -/
theorem State.TileLaws.captures (h : s.TileLaws) {n : SlotNo} {c : Context} {f : Word} (added : Option StoreEntry)
    (works : (s.contextAt n).atWork = true) (frame : (s.contextAt n).frame? = some f) (goesOn : c.frame? = some f)
    (own : ∀ e ∈ added, e.slot = n ∧ e.frame = f ∧ (e.sort.isLast = true → c.isDone = true))
    (contexts : ∀ m, t.contextAt m = if m = n then c else s.contextAt m) (store : t.store = s.store ++ added.toList)
    (membership : t.membership = s.membership) (frames : t.frame = s.frame) (strap : t.strap = s.strap) : t.TileLaws := by
  have number : f = s.frame.number := h.contextFrame n f frame
  have outstanding (m : SlotNo) : t.isOutstanding (t.ownKey m) = s.isOutstanding (s.ownKey m) :=
    State.isOutstanding_ownKey_congr (by rw [frames]) (by rw [strap]) m
  have not_last : ∀ e ∈ s.store, e.sort.isLast = true → e.slot ≠ n := by
    rintro e mem last rfl
    have done := h.done e mem last
    rw [Context.not_done_of_atWork works] at done
    cases done
  have mem_store {e : StoreEntry} (mem : e ∈ t.store) : e ∈ s.store ∨ e ∈ added := by
    simpa [store] using mem
  refine ⟨fun out => ?_, fun m g is => ?_, fun e mem => ?_, fun e mem => ?_, fun m atWork => ?_, fun e mem last => ?_, ?_⟩
  · have idle := (h.outside (membership ▸ out)).2 n
    simp [idle, Context.frame?] at frame
  · rw [contexts] at is
    rw [frames, ← number]
    split at is
    · exact Option.some.inj (is.symm.trans goesOn)
    · exact (h.contextFrame m g is).trans number.symm
  · rw [frames]
    rcases mem_store mem with mem | mem
    · exact h.storeFrame e mem
    · rw [(own e mem).2.1, number]
  · rw [outstanding]
    rcases mem_store mem with mem | mem
    · exact h.stored e mem
    · rw [(own e mem).1]; exact h.working n works
  · rw [outstanding]
    rw [contexts] at atWork
    split at atWork
    · next is => rw [is]; exact h.working n works
    · exact h.working m atWork
  · rw [contexts]
    rcases mem_store mem with mem | mem
    · rw [if_neg (not_last e mem last)]; exact h.done e mem last
    · rw [if_pos (own e mem).1]; exact (own e mem).2.2 last
  · rw [store]
    cases added with
    | none => simpa using h.last
    | some e =>
      exact lastEntriesLast_append (fun x mem last => (own e rfl).1 ▸ not_last x mem last) h.last

/-- R141, R142: an end marker or a last row, and the context that has ended. -/
theorem State.TileLaws.endTile {n : SlotNo} {f : Word} (row : Nat) (sort : StoreSort) (missing : Nat) (h : s.TileLaws)
    (works : (s.contextAt n).atWork = true) (frame : (s.contextAt n).frame? = some f) :
    (s.endTile n f row sort missing).TileLaws := by
  refine h.captures (c := .done f) (some ⟨n, f, row, sort, false⟩) works frame rfl ?_ (fun m => ?_) rfl rfl rfl rfl
  · rintro e ⟨⟩
    exact ⟨rfl, rfl, fun _ => rfl⟩
  · exact State.setContext_contextAt _ n m _

theorem State.TileLaws.endEarly (n : SlotNo) (h : s.TileLaws) : (endEarly s n).TileLaws := by
  unfold Machine.endEarly
  split
  · next f next missing e capturing _ => exact h.endTile _ _ _ (by rw [capturing]; rfl) (by rw [capturing]; rfl)
  · exact h

theorem State.TileLaws.beginCapture (n : SlotNo) (h : s.TileLaws) : (beginCapture s n).TileLaws := by
  unfold Machine.beginCapture
  split
  · next f armed =>
    exact h.captures (c := .capturing f 0 0) none (by rw [armed]; rfl) (by rw [armed]; rfl) rfl (by simp)
      (fun m => State.setContext_contextAt _ n m _) (by simp) rfl rfl rfl
  all_goals exact h

theorem State.TileLaws.handleRow {n : SlotNo} {f : Word} {next missing : Nat} (rows : Nat) (row : Option (List Byte))
    (h : s.TileLaws) (capturing : s.contextAt n = .capturing f next missing) :
    (s.handleRow n f next missing rows row).TileLaws := by
  have works : (s.contextAt n).atWork = true := by rw [capturing]; rfl
  have frame : (s.contextAt n).frame? = some f := by rw [capturing]; rfl
  have missed (u : State) (laws : u.TileLaws) (same : u.contextAt n = s.contextAt n) :
      State.TileLaws (if next + 1 = rows then u.endTile n f (lastTileRow rows) (.endMarker (missing + 1)) (missing + 1)
        else u.setContext n (.capturing f (next + 1) (missing + 1))) := by
    split
    · exact laws.endTile _ _ _ (same ▸ works) (same ▸ frame)
    · exact laws.captures (c := .capturing f (next + 1) (missing + 1)) none (same ▸ works) (same ▸ frame) rfl (by simp)
        (fun m => State.setContext_contextAt _ n m _) (by simp) rfl rfl rfl
  unfold State.handleRow
  simp only []
  split
  · exact missed s h rfl
  · next packed =>
    split
    · split
      · exact h.endTile _ _ _ works frame
      · refine h.captures (c := .capturing f (next + 1) missing) (some ⟨n, f, next, .row packed, false⟩) works frame rfl ?_
          (fun m => State.setContext_contextAt _ n m _) rfl rfl rfl rfl
        rintro e ⟨⟩
        exact ⟨rfl, rfl, fun last => by cases last⟩
    · exact missed s.dropLine (h.congr rfl rfl rfl rfl rfl rfl) rfl

theorem State.TileLaws.takeLine (row : Nat) (pixels : List Pixel) (n : SlotNo) (h : s.TileLaws) :
    (takeLine row pixels s n).TileLaws := by
  unfold Machine.takeLine
  split
  · next f next missing e capturing _ =>
    split
    · exact h
    · split
      · exact h.handleRow _ _ capturing
      · exact h
  · exact h

theorem Event.tileLaws (part : Event s t) (h : s.TileLaws) : t.TileLaws := by
  have outside (st : StationState) (is : s.membership.state = st) (out : st.inPlan = false) :
      s.membership.state.inPlan = false := is ▸ out
  cases part with
  | reset => exact .of_empty rfl fun n => tab4_get _ n
  | loads words strap => exact h.from_outside (outside _ strap rfl) (by simp) (by simp)
  | fails d strap =>
    rcases s.strapFailed_cases d with ⟨-, is⟩ | ⟨-, is⟩ <;> rw [is]
    · exact h.from_outside (outside _ strap rfl) (by simp) (by simp)
    · exact (State.TileLaws.muted _ _).takeIntoUse
  | tile e rest selected first =>
    refine h.fewer rfl rfl rfl rfl rfl ?_
    simp [State.startTile, State.drive, State.linkBusy, first, StoreEntry.bare]
  | founds listen => exact h.from_outside (outside _ listen rfl) (by simp) (by simp)
  | selfTrusts suspect =>
    exact h.congr (by simp [suspect, StationState.inPlan]) (by simp) (by simp) (by simp) (by simp) (by simp)
  | fallsBack syncing => exact h.from_outside (outside _ syncing rfl) (by simp) (by simp)
  | rejoin left => exact .of_empty rfl fun n => tab4_get _ n
  | captureBegins n => exact h.beginCapture n
  | captureEnds n => exact h.endEarly n
  | line row pixels n => exact h.takeLine row pixels n
  | mismatch => exact h.congr rfl rfl rfl rfl rfl rfl
  | matched => exact h.congr rfl rfl rfl rfl rfl rfl
  | sensor => exact h.congr rfl rfl rfl rfl rfl rfl
  | _ => exact h.congr (by simp) (by simp) (by simp) (by simp) (by simp) (by simp)

theorem step_tileLaws (flight : s.flightLawful = true) (h : s.TileLaws) (next : step s = .next t) : t.TileLaws :=
  step_leads (P := State.TileLaws) next h (fun _ => h.congr rfl rfl rfl rfl rfl rfl) (fun _ _ part => part.tileLaws)
    fun rest j => (tileLaws_cell (s := { s with pending := rest }) flight (h.congr rfl rfl rfl rfl rfl rfl)).cellEnds j

/-- Settles O59: rows and end markers join the store behind a context at work, and what takes a tile out of the frame
takes its rows and its context along. -/
theorem everyStepKeepsTheTilesLawful : Obligations.EveryStepKeepsTheTilesLawful := by
  unfold Obligations.EveryStepKeepsTheTilesLawful
  intro s t _ _ _ _ flight frames tiles next
  have laws := step_tileLaws flight (State.tileLaws_iff.1 ⟨frames, tiles⟩) next
  exact ⟨(State.tileLaws_iff.2 laws).1, (State.tileLaws_iff.2 laws).2, storeMarkers_le laws.last⟩

end Tiles

end Sys2Proof.Machine
end

section
set_option Elab.async false
/-! What serving the slots makes of the station, exactly: the slots' contents, the cells that join the queue and the
notices, in slot order (R19, R20, R25, R30). -/

namespace Sys2Proof.Machine

/-! ### One edit of the slots, the queue and the notices -/

section Edits

variable (s : State)

variable {s} in
/-- A state is what its fields are. -/
theorem State.ext_fields {t : State} (claims : t.claims = s.claims) (frame : t.frame = s.frame)
    (membership : t.membership = s.membership) (recovery : t.recovery = s.recovery) (link : t.link = s.link)
    (ladder : t.ladder = s.ladder) (capture : t.capture = s.capture) (store : t.store = s.store) (queue : t.queue = s.queue)
    (strap : t.strap = s.strap) (port : t.port = s.port) (resetLine : t.resetLine = s.resetLine) (free : t.free = s.free)
    (pending : t.pending = s.pending) : t = s := by
  cases s
  cases t
  simp only at claims frame membership recovery link ladder capture store queue strap port resetLine free pending
  simp only [claims, frame, membership, recovery, link, ladder, capture, store, queue, strap, port, resetLine, free, pending]

/-- A queued cell as it joins (R163). -/
def waiting (k : QueueKind) : QueuedCell := ⟨k, none, false⟩

/-- The station with these slots, these cells behind its queue, and these notices deposited. -/
def State.planEdit (s : State) (slots : SlotNo → Slot) (cells : List QueueKind) (notes : List Notice) : State :=
  { s with
    claims := { s.claims with slots := tab4 slots }
    queue := s.queue ++ cells.map waiting
    port := (s.depositAll notes).port }

variable (slots : SlotNo → Slot) (cells : List QueueKind) (notes : List Notice)

@[simp] theorem State.planEdit_frames :
    (s.planEdit slots cells notes).claims.table = s.claims.table ∧
    (s.planEdit slots cells notes).claims.removalMark = s.claims.removalMark ∧
    (s.planEdit slots cells notes).frame = s.frame ∧ (s.planEdit slots cells notes).membership = s.membership ∧
    (s.planEdit slots cells notes).recovery = s.recovery ∧ (s.planEdit slots cells notes).link = s.link ∧
    (s.planEdit slots cells notes).ladder = s.ladder ∧ (s.planEdit slots cells notes).capture = s.capture ∧
    (s.planEdit slots cells notes).store = s.store ∧ (s.planEdit slots cells notes).strap = s.strap ∧
    (s.planEdit slots cells notes).resetLine = s.resetLine ∧ (s.planEdit slots cells notes).free = s.free ∧
    (s.planEdit slots cells notes).pending = s.pending ∧
    (s.planEdit slots cells notes).queue = s.queue ++ cells.map waiting ∧
    (s.planEdit slots cells notes).port = (s.depositAll notes).port := by
  simp [State.planEdit]

@[simp] theorem State.planEdit_slotAt (n : SlotNo) : (s.planEdit slots cells notes).slotAt n = slots n := by
  simp only [State.planEdit, State.slotAt]
  exact tab4_get slots n

theorem tab4_eta {α : Type} (v : Vector α 4) : (tab4 fun n => v[n]) = v := by
  apply Vector.ext
  intro i lt
  exact tab4_get (fun n => v[n]) ⟨i, lt⟩

/-- A slot bank is what its readings are. -/
theorem State.slots_eq {b : SlotNo → Slot} (reads : ∀ n, s.slotAt n = b n) : s.claims.slots = tab4 b := by
  rw [← tab4_eta s.claims.slots]
  exact congrArg tab4 (funext reads)

/-- Deposits see the port only. -/
theorem State.deposit_port {s t : State} (port : t.port = s.port) (x : Notice) :
    (t.deposit x).port = (s.deposit x).port := by
  unfold State.deposit
  rw [port]
  split <;> rfl

theorem State.depositAll_port {s t : State} (port : t.port = s.port) (l : List Notice) :
    (t.depositAll l).port = (s.depositAll l).port := by
  induction l generalizing s t with
  | nil => exact port
  | cons x rest ih => exact ih (State.deposit_port port x)

theorem State.depositAll_append (l m : List Notice) : s.depositAll (l ++ m) = (s.depositAll l).depositAll m :=
  List.foldl_append

theorem State.planEdit_refl : s.planEdit s.slotAt [] [] = s := by
  rw [State.planEdit, ← s.slots_eq fun _ => rfl]
  simp [State.depositAll]

theorem State.planEdit_planEdit (slots' : SlotNo → Slot) (cells' : List QueueKind) (notes' : List Notice) :
    (s.planEdit slots cells notes).planEdit slots' cells' notes' = s.planEdit slots' (cells ++ cells')
      (notes ++ notes') := by
  have port : ((s.planEdit slots cells notes).depositAll notes').port = (s.depositAll (notes ++ notes')).port := by
    rw [State.depositAll_append]
    exact State.depositAll_port (by simp) notes'
  rw [State.planEdit, port]
  simp [State.planEdit]

theorem State.setSlot_eq_planEdit (n : SlotNo) (sl : Slot) :
    s.setSlot n sl = s.planEdit (fun m => if m = n then sl else s.slotAt m) [] [] := by
  rw [State.planEdit, ← (s.setSlot n sl).slots_eq fun m => s.setSlot_slotAt n m sl]
  simp [State.setSlot, State.depositAll]

theorem State.deposit_eq_planEdit (x : Notice) : s.deposit x = s.planEdit s.slotAt [] [x] := by
  rw [State.planEdit, ← s.slots_eq fun _ => rfl]
  simpa [State.depositAll] using s.deposit_eq x

theorem State.enqueue_eq_planEdit (k : QueueKind) :
    s.enqueue k = s.planEdit s.slotAt (if s.queues k then [] else [k]) [] := by
  rw [State.planEdit, ← s.slots_eq fun _ => rfl]
  rcases s.enqueue_cases k with ⟨taken, is⟩ | ⟨free, is⟩ <;> rw [is] <;> simp [*, State.depositAll, waiting]

theorem State.planEdit_queues (k : QueueKind) :
    (s.planEdit slots cells notes).queues k = (s.queues k || cells.any fun c => c.place == k.place) := by
  simp [State.queues, Function.comp_def, waiting]

theorem State.planEdit_ownEntry (n : SlotNo) : (s.planEdit slots cells notes).ownEntry n = s.ownEntry n := by
  simp [State.ownEntry, State.entryOf, State.ownKey, State.own]

theorem State.planEdit_own : (s.planEdit slots cells notes).own = s.own := by simp [State.own]

theorem State.planEdit_isMember : (s.planEdit slots cells notes).isMember = s.isMember := by simp [State.isMember]

theorem State.planEdit_present (i : Station) : (s.planEdit slots cells notes).present i = s.present i := by
  simp [State.present, State.rosterAt]

theorem State.planEdit_helloWaits (none : ∀ k ∈ cells, k ≠ .hello) :
    (s.planEdit slots cells notes).helloWaits = s.helloWaits := by
  have added : (cells.map waiting).any (fun c => c.kind == .hello && !c.inFlight) = false := by
    rw [List.any_eq_false]
    intro c mem
    obtain ⟨k, member, rfl⟩ := List.mem_map.1 mem
    simp [waiting, none k member]
  simp [State.helloWaits, added]

end Edits

/-! ### Serving the slots in slot order -/

section Passes

variable (s : State) (slots : SlotNo → Slot) (cells : SlotNo → List QueueKind) (notes : SlotNo → List Notice)

/-- The station behind the slots of `done`, each served by its own slot, cells and notices. -/
def State.served (done : List SlotNo) : State :=
  s.planEdit (fun n => if n ∈ done then slots n else s.slotAt n) (done.flatMap cells) (done.flatMap notes)

/-- A pass over the slots edits the slots, the queue and the notices slot by slot. -/
theorem State.forSlots_eq_planEdit {f : State → SlotNo → State}
    (one : ∀ done n, n ∉ done → f (s.served slots cells notes done) n = (s.served slots cells notes done).planEdit
      (fun m => if m = n then slots n else (s.served slots cells notes done).slotAt m) (cells n) (notes n)) :
    s.forSlots f = s.planEdit slots (slotOrder.flatMap cells) (slotOrder.flatMap notes) := by
  have next (done : List SlotNo) (n : SlotNo) (new : n ∉ done) :
      f (s.served slots cells notes done) n = s.served slots cells notes (done ++ [n]) := by
    rw [one done n new, State.served, State.planEdit_planEdit, State.served]
    congr 1
    · funext m
      by_cases is : m = n <;> simp [is]
    · simp
    · simp
  have pass : ∀ l done : List SlotNo, (done ++ l).Nodup →
      l.foldl f (s.served slots cells notes done) = s.served slots cells notes (done ++ l) := by
    intro l
    induction l with
    | nil => simp
    | cons n rest ih =>
      intro done distinct
      have new : n ∉ done := fun mem => (List.nodup_append.1 distinct).2.2 n mem n List.mem_cons_self rfl
      rw [List.foldl_cons, next done n new, ih (done ++ [n]) (by simpa using distinct)]
      simp
  have start : s = s.served slots cells notes [] := by simp [State.served, s.planEdit_refl]
  have whole := pass slotOrder [] (by decide)
  rw [← start] at whole
  refine whole.trans ?_
  have all : ∀ n : SlotNo, n ∈ slotOrder := by decide
  simp [State.served, all]

theorem flatMap_ite {α β : Type} (l : List α) (c : α → Bool) (f : α → β) :
    (l.flatMap fun n => if c n then [f n] else []) = (l.filter c).map f := by
  induction l with
  | nil => rfl
  | cons a rest ih => cases is : c a <;> simp [is, ih]

theorem flatMap_nil {α β : Type} (l : List α) : (l.flatMap fun _ => ([] : List β)) = [] := by simp

variable {s slots cells notes} {done : List SlotNo} {n : SlotNo}

@[simp] theorem State.served_slotAt (new : n ∉ done) : (s.served slots cells notes done).slotAt n = s.slotAt n := by
  simp [State.served, new]

theorem State.planEdit_keeps (s : State) (cells : List QueueKind) (notes : List Notice) (n : SlotNo) :
    s.planEdit (fun m => if m = n then s.slotAt n else s.slotAt m) cells notes = s.planEdit s.slotAt cells notes := by
  congr 1
  funext m
  split
  · next is => rw [is]
  · rfl

/-- R20, R21, R25: a slot's new contents, its cell and its notice, in one edit. -/
theorem State.setSlot_enqueue (s : State) (n : SlotNo) (sl : Slot) (k : QueueKind) :
    (s.setSlot n sl).enqueue k =
      s.planEdit (fun m => if m = n then sl else s.slotAt m) (if s.queues k then [] else [k]) [] := by
  rw [State.enqueue_eq_planEdit, show (s.setSlot n sl).queues k = s.queues k from rfl, State.setSlot_eq_planEdit,
    State.planEdit_planEdit]
  congr 1
  funext m
  simp

theorem State.setSlot_deposit (s : State) (n : SlotNo) (sl : Slot) (x : Notice) :
    (s.setSlot n sl).deposit x = s.planEdit (fun m => if m = n then sl else s.slotAt m) [] [x] := by
  rw [State.deposit_eq_planEdit, State.setSlot_eq_planEdit, State.planEdit_planEdit]
  congr 1
  funext m
  simp

/-- A pass that gives each slot new contents by its own contents, the table and the image, with a notice of its own. -/
theorem State.forSlots_slots (s : State) {f : State → SlotNo → State} (new : SlotNo → Slot → Slot)
    (note : SlotNo → Slot → List Notice)
    (one : ∀ t n, t.claims.table = s.claims.table → t.strap = s.strap → f t n =
      t.planEdit (fun m => if m = n then new n (t.slotAt n) else t.slotAt m) [] (note n (t.slotAt n))) :
    s.forSlots f = s.planEdit (fun n => new n (s.slotAt n)) [] (slotOrder.flatMap fun n => note n (s.slotAt n)) := by
  rw [s.forSlots_eq_planEdit (fun n => new n (s.slotAt n)) (fun _ => []) (fun n => note n (s.slotAt n)) fun done n new => ?_,
    flatMap_nil]
  rw [one _ n (by simp [State.served]) (by simp [State.served]), State.served_slotAt new]

/-- The cells of a slot: its CLAIM and its RELEASE (R162). -/
def ofSlots (cells : SlotNo → List QueueKind) : Prop := ∀ n, ∀ k ∈ cells n, k = .claim n ∨ k = .release n

theorem ofSlots.mem {k : QueueKind} (own : ofSlots cells) (mem : k ∈ done.flatMap cells) :
    ∃ m ∈ done, k = .claim m ∨ k = .release m := by
  obtain ⟨m, member, mem⟩ := List.mem_flatMap.1 mem
  exact ⟨m, member, own m k mem⟩

/-- Serving the slots before it takes no place of a slot. -/
theorem ofSlots.queues (own : ofSlots cells) (new : n ∉ done) :
    (s.served slots cells notes done).queues (.claim n) = s.queues (.claim n) := by
  have free : (done.flatMap cells).any (fun c => c.place == (QueueKind.claim n).place) = false := by
    rw [List.any_eq_false]
    intro k mem
    obtain ⟨m, member, is⟩ := own.mem mem
    have other : m ≠ n := fun is => new (is ▸ member)
    rcases is with rfl | rfl <;> simpa [QueueKind.place, Fin.ext_iff] using other
  rw [State.served, State.planEdit_queues, free, Bool.or_false]

theorem ofSlots.helloWaits (own : ofSlots cells) : (s.served slots cells notes done).helloWaits = s.helloWaits :=
  State.planEdit_helloWaits _ _ _ _ fun k mem => by
    obtain ⟨m, -, rfl | rfl⟩ := own.mem mem <;> simp

theorem ofSlots_ite {c : SlotNo → Bool} {k : SlotNo → QueueKind} (own : ∀ n, k n = .claim n ∨ k n = .release n) :
    ofSlots fun n => if c n then [k n] else [] := by
  intro n x mem
  simp only [] at mem
  split at mem
  · rw [List.mem_singleton.1 mem]; exact own n
  · cases mem

end Passes

/-! ### The passes of the model -/

section Model

variable (s : State)

/-- R20: what makes a WANTED slot PROPOSED. -/
def State.serves (s : State) (n : SlotNo) : Bool :=
  (s.slotAt n).state == .wanted && s.isMember && (s.present s.own || s.helloWaits)

theorem State.claimIfReady_eq (n : SlotNo) :
    s.claimIfReady n = s.planEdit
      (fun m => if m = n then (if s.serves n then { s.slotAt n with state := .proposed } else s.slotAt n) else s.slotAt m)
      (if s.serves n && !s.queues (.claim n) then [.claim n] else []) [] := by
  have shape : s.claimIfReady n = if s.serves n then (s.setSlotState n .proposed).enqueue (.claim n) else s := rfl
  rw [shape]
  cases serves : s.serves n
  · simp [State.planEdit_keeps, s.planEdit_refl]
  · rw [if_pos rfl, State.setSlotState, State.setSlot_enqueue]
    cases s.queues (.claim n) <;> simp

variable {slots : SlotNo → Slot} {cells : SlotNo → List QueueKind} {notes : SlotNo → List Notice} {done : List SlotNo}
  {n : SlotNo}

variable {s} in
theorem ofSlots.serves (own : ofSlots cells) (new : n ∉ done) :
    (s.served slots cells notes done).serves n = s.serves n := by
  rw [State.serves, State.serves, State.served_slotAt new, own.helloWaits, State.served, State.planEdit_isMember,
    State.planEdit_own, State.planEdit_present]

/-- R20: the slots served, and a CLAIM for each behind the queue, unless its place is taken. -/
theorem State.serveClaims_eq :
    s.serveClaims = s.planEdit (fun n => if s.serves n then { s.slotAt n with state := .proposed } else s.slotAt n)
      ((slotOrder.filter fun n => s.serves n && !s.queues (.claim n)).map .claim) [] := by
  have own : ofSlots fun n => if s.serves n && !s.queues (.claim n) then [QueueKind.claim n] else [] :=
    ofSlots_ite fun _ => .inl rfl
  rw [State.serveClaims, s.forSlots_eq_planEdit _ _ (fun _ => []) fun done n new => ?_, flatMap_ite, flatMap_nil]
  rw [State.claimIfReady_eq, own.serves new, State.served_slotAt new, own.queues new]

/-- R25: what makes a slot's RELEASE due. -/
def State.releaseDue (s : State) (n : SlotNo) : Bool :=
  (s.slotAt n).state == .dropping && s.isMember &&
    (s.ownEntry n).any fun e => e.state == .pending || e.state == .held

theorem State.releaseIfDue_eq (n : SlotNo) :
    s.releaseIfDue n = s.planEdit (fun m => if m = n then s.slotAt n else s.slotAt m)
      (if s.releaseDue n && !s.queues (.claim n) then [.release n] else []) [] := by
  have shape : s.releaseIfDue n = if s.releaseDue n then s.enqueue (.release n) else s := rfl
  have place : s.queues (.release n) = s.queues (.claim n) := rfl
  rw [shape, State.planEdit_keeps]
  cases s.releaseDue n
  · simp [s.planEdit_refl]
  · rw [if_pos rfl, State.enqueue_eq_planEdit, place]
    cases s.queues (.claim n) <;> simp

/-- R25: a RELEASE for each slot where one is due, unless its place is taken. -/
theorem State.serveReleases_eq :
    s.serveReleases = s.planEdit s.slotAt
      ((slotOrder.filter fun n => s.releaseDue n && !s.queues (.claim n)).map .release) [] := by
  have own : ofSlots fun n => if s.releaseDue n && !s.queues (.claim n) then [QueueKind.release n] else [] :=
    ofSlots_ite fun _ => .inr rfl
  rw [State.serveReleases, s.forSlots_eq_planEdit s.slotAt _ (fun _ => []) fun done n new => ?_, flatMap_ite, flatMap_nil]
  have due : (s.served s.slotAt (fun n => if s.releaseDue n && !s.queues (.claim n) then [QueueKind.release n] else [])
      (fun _ => []) done).releaseDue n = s.releaseDue n := by
    rw [State.releaseDue, State.releaseDue, State.served_slotAt new, State.served, State.planEdit_ownEntry,
      State.planEdit_isMember]
  rw [State.releaseIfDue_eq, due, State.served_slotAt new, own.queues new]

/-- R19: what a start-on mark starts. -/
def State.starts (s : State) (n : SlotNo) : Bool := (s.slotAt n).state == .off && (s.slotAt n).startOn

theorem State.startSlot_eq (n : SlotNo) :
    s.startSlot n = s.planEdit
      (fun m => if m = n then (if s.starts n then { s.slotAt n with state := .wanted } else s.slotAt n) else s.slotAt m) []
      (if s.starts n then [.slot n .wanted .start] else []) := by
  have shape : s.startSlot n = if s.starts n then s.changeSlot n .wanted .start else s := rfl
  rw [shape]
  cases s.starts n
  · simp [State.planEdit_keeps, s.planEdit_refl]
  · simpa [State.changeSlot, State.setSlotState] using State.setSlot_deposit s n _ _

/-- R19: the marked OFF slots WANTED, every mark cleared. -/
theorem State.startOnSlots_eq :
    s.startOnSlots = s.planEdit
      (fun n => { s.slotAt n with state := if s.starts n then .wanted else (s.slotAt n).state, startOn := false }) []
      ((slotOrder.filter s.starts).map fun n => .slot n .wanted .start) := by
  have pass : s.forSlots State.startSlot = s.planEdit
      (fun n => if s.starts n then { s.slotAt n with state := .wanted } else s.slotAt n) []
      ((slotOrder.filter s.starts).map fun n => .slot n .wanted .start) := by
    rw [← flatMap_ite]
    exact s.forSlots_slots
      (fun _ sl => if sl.state == .off && sl.startOn then { sl with state := .wanted } else sl)
      (fun n sl => if sl.state == .off && sl.startOn then [.slot n .wanted .start] else [])
      fun t n _ _ => t.startSlot_eq n
  have marks : s.startOnSlots =
      (s.forSlots State.startSlot).planEdit
        (fun n => { (s.forSlots State.startSlot).slotAt n with startOn := false }) [] [] := by
    simp [State.startOnSlots, State.planEdit, State.depositAll, State.slotAt]
  rw [marks, pass, State.planEdit_planEdit]
  congr 1
  · funext n
    rw [State.planEdit_slotAt]
    cases s.starts n <;> simp
  · simp

/-- R84, R26: PROPOSED slots back to WANTED. -/
theorem State.suspectSlots_eq :
    s.forSlots State.suspectSlot = s.planEdit
      (fun n => if (s.slotAt n).state = .proposed then { s.slotAt n with state := .wanted, offAfter := false }
        else s.slotAt n) []
      ((slotOrder.filter fun n => (s.slotAt n).state == .proposed).map fun n => .slot n .wanted .suspect) := by
  rw [← flatMap_ite]
  refine s.forSlots_slots (fun _ sl => if sl.state = .proposed then { sl with state := .wanted, offAfter := false } else sl)
    (fun n sl => if sl.state == .proposed then [.slot n .wanted .suspect] else []) fun t n _ _ => ?_
  unfold State.suspectSlot
  by_cases proposed : (t.slotAt n).state = .proposed
  · rw [if_pos (by simpa using proposed), State.setSlot_deposit, if_pos proposed, if_pos (by simpa using proposed)]
  · rw [if_neg (by simpa using proposed), if_neg proposed, if_neg (by simpa using proposed), State.planEdit_keeps,
      t.planEdit_refl]

/-- R95: a slot as an install rederives it, by its own entry. -/
def rederived (e : Option EntryState) (sl : Slot) : Slot :=
  { sl with state := installedSlot sl.state sl.startOn e, offAfter := false }

/-- R95: the slots rederived from the table. -/
theorem State.rederiveSlots_eq :
    s.forSlots State.rederiveSlot = s.planEdit (fun n => rederived ((s.ownEntry n).map Entry.state) (s.slotAt n)) []
      ((slotOrder.filter fun n => (rederived ((s.ownEntry n).map Entry.state) (s.slotAt n)).state != (s.slotAt n).state).map
        fun n => .slot n (rederived ((s.ownEntry n).map Entry.state) (s.slotAt n)).state .install) := by
  rw [← flatMap_ite]
  refine s.forSlots_slots (fun n sl => rederived ((s.ownEntry n).map Entry.state) sl)
    (fun n sl => if (rederived ((s.ownEntry n).map Entry.state) sl).state != sl.state
      then [.slot n (rederived ((s.ownEntry n).map Entry.state) sl).state .install] else []) fun t n table strap => ?_
  have entry : t.ownEntry n = s.ownEntry n := by
    rw [State.ownEntry, State.entryOf, table, State.ownKey, State.own, strap]; rfl
  have shape : t.rederiveSlot n =
      if (rederived ((s.ownEntry n).map Entry.state) (t.slotAt n)).state == (t.slotAt n).state
      then t.setSlot n (rederived ((s.ownEntry n).map Entry.state) (t.slotAt n))
      else (t.setSlot n (rederived ((s.ownEntry n).map Entry.state) (t.slotAt n))).deposit
        (.slot n (rederived ((s.ownEntry n).map Entry.state) (t.slotAt n)).state .install) := by
    rw [← entry]; rfl
  rw [shape]
  by_cases same : (rederived ((s.ownEntry n).map Entry.state) (t.slotAt n)).state = (t.slotAt n).state
  · rw [if_pos (by simpa using same), State.setSlot_eq_planEdit, if_neg (by simpa using same)]
  · rw [if_neg (by simpa using same), State.setSlot_deposit, if_pos (by simpa using same)]

/-- R15, R24, R25: a slot's state behind a close. -/
def passedState (mark removed : Bool) : SlotState → SlotState
  | .dropping => if removed then .off else .dropping
  | .waiting why => if mark then .wanted else .waiting why
  | .off => .off
  | .wanted => .wanted
  | .proposed => .proposed
  | .active => .active

/-- R15, R24, R25: the notice of a slot behind a close. -/
def passedNotice (mark removed : Bool) (n : SlotNo) : SlotState → List Notice
  | .dropping => if removed then [.slot n .off .released] else []
  | .waiting _ => if mark then [.slot n .wanted .retry] else []
  | .off => []
  | .wanted => []
  | .proposed => []
  | .active => []

/-- R15, step 5: the slots behind a close. -/
theorem State.slotPasses_eq (mark : Bool) (removed : List Entry) :
    s.forSlots (slotPass mark removed) = s.planEdit
      (fun n => { s.slotAt n with
        state := passedState mark (removed.any fun e => e.key == s.ownKey n) (s.slotAt n).state }) []
      (slotOrder.flatMap fun n => passedNotice mark (removed.any fun e => e.key == s.ownKey n) n (s.slotAt n).state) := by
  refine s.forSlots_slots
    (fun n sl => { sl with state := passedState mark (removed.any fun e => e.key == s.ownKey n) sl.state })
    (fun n sl => passedNotice mark (removed.any fun e => e.key == s.ownKey n) n sl.state) fun t n _ strap => ?_
  have key : t.ownKey n = s.ownKey n := by rw [State.ownKey, State.own, strap]; rfl
  have keeps (st : SlotState) (is : st = (t.slotAt n).state) :
      t = t.planEdit (fun m => if m = n then { t.slotAt n with state := st } else t.slotAt m) [] [] := by
    rw [is, State.planEdit_keeps, t.planEdit_refl]
  unfold slotPass
  rw [key]
  generalize (removed.any fun e => e.key == s.ownKey n) = gone
  cases state : (t.slotAt n).state with
  | dropping =>
    cases gone
    · exact keeps _ (by rw [state]; rfl)
    · exact State.setSlot_deposit t n _ _
  | waiting why =>
    cases mark
    · exact keeps _ (by rw [state]; rfl)
    · exact State.setSlot_deposit t n _ _
  | off => exact keeps _ (by rw [state]; rfl)
  | wanted => exact keeps _ (by rw [state]; rfl)
  | proposed => exact keeps _ (by rw [state]; rfl)
  | active => exact keeps _ (by rw [state]; rfl)

/-- R181: a slot as its record of the image gives it. -/
def recordSlot (w : List Word) (n : SlotNo) : Slot :=
  ⟨Format.ofBits (recordWord w n 0).toNat, recordRegion w n, ⟨recordWord w n 5, recordWord w n 6⟩, .off,
    recordEnabled w n && localChecks w n (Format.ofBits (recordWord w n 0).toNat) (recordRegion w n)
      ⟨recordWord w n 5, recordWord w n 6⟩, false⟩

/-- R181: the slots loaded from the image. -/
theorem State.loadSlots_eq :
    s.forSlots loadSlot = s.planEdit (recordSlot s.strap.words) []
      ((slotOrder.filter fun n => recordEnabled s.strap.words n && !(localChecks s.strap.words n
        (Format.ofBits (recordWord s.strap.words n 0).toNat) (recordRegion s.strap.words n)
        ⟨recordWord s.strap.words n 5, recordWord s.strap.words n 6⟩)).map fun n => .slot n .off .invalid) := by
  rw [← flatMap_ite]
  refine s.forSlots_slots (fun n _ => recordSlot s.strap.words n) (fun n _ => if recordEnabled s.strap.words n &&
    !(localChecks s.strap.words n (Format.ofBits (recordWord s.strap.words n 0).toNat) (recordRegion s.strap.words n)
      ⟨recordWord s.strap.words n 5, recordWord s.strap.words n 6⟩) then [.slot n .off .invalid] else [])
    fun t n _ strap => ?_
  have shape : loadSlot t n = if recordEnabled s.strap.words n &&
    !(localChecks s.strap.words n (Format.ofBits (recordWord s.strap.words n 0).toNat) (recordRegion s.strap.words n)
      ⟨recordWord s.strap.words n 5, recordWord s.strap.words n 6⟩)
      then (t.setSlot n (recordSlot s.strap.words n)).deposit (.slot n .off .invalid)
      else t.setSlot n (recordSlot s.strap.words n) := by rw [← strap]; rfl
  rw [shape]
  split
  · exact State.setSlot_deposit t n _ _
  · exact State.setSlot_eq_planEdit t n _

end Model

end Sys2Proof.Machine
end

section
set_option Elab.async false
/-! O20, O36: the entry into SUSPECT and the entry into MEMBER, exactly (R26, R65, R70, R84, R19, R20, R25). -/

namespace Sys2Proof.Machine

section Entries

variable (s : State)

theorem State.ownEntry_eq (n : SlotNo) :
    s.ownEntry n = s.claims.table.find? fun e => e.owner == s.own && e.slot == n := by
  rw [State.ownEntry, State.entryOf]
  congr 1
  funext e
  rw [State.ownKey, Bool.eq_iff_iff]
  simp [Entry.key]

theorem EntryState.current_iff (e : EntryState) : (e == .pending || e == .held) = (e != .releasing) := by
  cases e <;> rfl

/-- No cell of a slot and no HELLO is queued: the queue of a station that enters MEMBER (R167). -/
def planFree (q : List QueuedCell) : Prop := ∀ c ∈ q, c.kind.isPlan = false

theorem planFree.queues {q : List QueuedCell} (free : planFree q) (queue : s.queue = q) (n : SlotNo) :
    s.queues (.claim n) = false := by
  rw [State.queues, List.any_eq_false]
  intro c mem
  have kind := free c (queue ▸ mem)
  obtain ⟨k, g, m⟩ := c
  cases k <;> simp [QueueKind.isPlan, QueueKind.place, Fin.ext_iff] at kind ⊢ <;> omega

theorem planFree.hello {q : List QueuedCell} (free : planFree q) (queue : s.queue = q) : s.queues .hello = false := by
  rw [State.queues, List.any_eq_false]
  intro c mem
  have kind := free c (queue ▸ mem)
  obtain ⟨k, g, m⟩ := c
  cases k <;> simp [QueueKind.isPlan, QueueKind.place] at kind ⊢

/-- R65, R19, R20: what makes a slot PROPOSED at an entry into MEMBER. -/
def State.claimsAtEntry (s : State) (n : SlotNo) : Bool := s.starts n || (s.slotAt n).state == .wanted

/-- R65, R19: the slots of a station behind its HELLO, the marked ones started. -/
def startedSlot (s : State) (n : SlotNo) : Slot :=
  { s.slotAt n with state := if s.starts n then .wanted else (s.slotAt n).state, startOn := false }

/-- R65, R19, R20: a slot behind an entry into MEMBER. -/
def enteredSlot (s : State) (n : SlotNo) : Slot :=
  { s.slotAt n with state := if s.claimsAtEntry n then .proposed else (s.slotAt n).state, startOn := false }

theorem startedSlot_wanted (n : SlotNo) : ((startedSlot s n).state == .wanted) = s.claimsAtEntry n := by
  simp only [startedSlot, State.claimsAtEntry]
  cases s.starts n <;> simp

theorem enteredSlot_eq (n : SlotNo) :
    (if s.claimsAtEntry n then { startedSlot s n with state := .proposed } else startedSlot s n) = enteredSlot s n := by
  simp only [startedSlot, enteredSlot, State.claimsAtEntry]
  by_cases starts : s.starts n = true
  · simp [starts]
  · simp only [starts, Bool.false_or, if_false, Bool.false_eq_true]
    split <;> rfl

theorem enteredSlot_dropping (n : SlotNo) : ((enteredSlot s n).state == .dropping) = ((s.slotAt n).state == .dropping) := by
  by_cases claims : s.claimsAtEntry n = true
  · have not_dropping : (s.slotAt n).state ≠ .dropping := by
      intro is
      simp [State.claimsAtEntry, State.starts, is] at claims
    simp [enteredSlot, claims, not_dropping]
  · simp [enteredSlot, claims]

/-- R65, R19, R20, R25: the entry into MEMBER, from a queue without a cell of the plan. -/
theorem State.memberCells_eq (member : s.membership.state = .member) (free : planFree s.queue) :
    s.memberCells = s.planEdit (enteredSlot s)
      (.hello :: ((slotOrder.filter s.claimsAtEntry).map .claim ++ (slotOrder.filter s.releaseDue).map .release))
      ((slotOrder.filter s.starts).map fun n => .slot n .wanted .start) := by
  have isMember : s.isMember = true := isMember_iff.2 member
  set starts := (slotOrder.filter s.starts).map fun n => Notice.slot n .wanted .start with starts_is
  have begun : (s.enqueue .hello).startOnSlots = s.planEdit (startedSlot s) [.hello] starts := by
    have hello : s.enqueue .hello = s.planEdit s.slotAt [.hello] [] := by
      rw [State.enqueue_eq_planEdit, free.hello s rfl]; rfl
    have same : (s.planEdit s.slotAt [.hello] []).starts = s.starts := by
      funext n
      rw [State.starts, State.starts, State.planEdit_slotAt]
    rw [hello, State.startOnSlots_eq, State.planEdit_planEdit, same]
    simp only [State.planEdit_slotAt]
    rfl
  have claimed : (s.planEdit (startedSlot s) [.hello] starts).serveClaims =
      s.planEdit (enteredSlot s) (.hello :: (slotOrder.filter s.claimsAtEntry).map .claim) starts := by
    have serves (n : SlotNo) : (s.planEdit (startedSlot s) [.hello] starts).serves n = s.claimsAtEntry n := by
      rw [State.serves, State.planEdit_slotAt, startedSlot_wanted, State.planEdit_isMember, isMember]
      simp [State.helloWaits, waiting]
    have places (n : SlotNo) : (s.planEdit (startedSlot s) [.hello] starts).queues (.claim n) = false := by
      rw [State.planEdit_queues, free.queues s rfl]
      simp [QueueKind.place, Fin.ext_iff]
      omega
    rw [State.serveClaims_eq, State.planEdit_planEdit]
    simp only [serves, places, State.planEdit_slotAt, enteredSlot_eq, Bool.not_false, Bool.and_true, List.append_nil,
      List.singleton_append]
  have released : (s.planEdit (enteredSlot s)
    (.hello :: (slotOrder.filter s.claimsAtEntry).map .claim) starts).serveReleases =
      s.planEdit (enteredSlot s)
        (.hello :: ((slotOrder.filter s.claimsAtEntry).map .claim ++
          (slotOrder.filter s.releaseDue).map .release)) starts := by
    set t := s.planEdit (enteredSlot s) (.hello :: (slotOrder.filter s.claimsAtEntry).map .claim) starts with t_is
    have due (n : SlotNo) : t.releaseDue n = s.releaseDue n := by
      rw [State.releaseDue, State.releaseDue, t_is, State.planEdit_slotAt, enteredSlot_dropping, State.planEdit_isMember,
        State.planEdit_ownEntry]
    have places (n : SlotNo) (due : s.releaseDue n = true) : t.queues (.claim n) = false := by
      have dropping : (s.slotAt n).state = .dropping := by
        simp only [State.releaseDue, Bool.and_eq_true, beq_iff_eq] at due
        exact due.1.1
      rw [t_is, State.planEdit_queues, free.queues s rfl, Bool.false_or, List.any_eq_false]
      intro k mem
      rcases List.mem_cons.1 mem with rfl | mem
      · simp [QueueKind.place, Fin.ext_iff]
        omega
      · obtain ⟨m, member, rfl⟩ := List.mem_map.1 mem
        have claims := (List.mem_filter.1 member).2
        simp only [QueueKind.place, Fin.ext_iff, beq_iff_eq, Fin.val_castLE]
        intro is
        rw [Fin.ext is, State.claimsAtEntry, State.starts, dropping] at claims
        simp at claims
    have dues : (slotOrder.filter fun n => t.releaseDue n && !t.queues (.claim n)) = slotOrder.filter s.releaseDue := by
      refine List.filter_congr fun n _ => ?_
      rw [due n]
      cases is : s.releaseDue n
      · rfl
      · simp [places n is]
    rw [State.serveReleases_eq, dues, t_is, State.planEdit_planEdit]
    congr 1
    · funext n
      rw [State.planEdit_slotAt]
    · simp
  rw [State.memberCells, begun, claimed, released]

/-- Settles O36: serving the slots behind the HELLO, edit by edit. -/
theorem memberEntryQueuesItsCells : Obligations.MemberEntryQueuesItsCells := by
  unfold Obligations.MemberEntryQueuesItsCells
  intro s member kinds
  have free : planFree s.queue := by
    intro c mem
    have kind := List.all_eq_true.1 kinds c mem
    simp only [Bool.decide_or, Bool.or_eq_true, decide_eq_true_eq] at kind
    rcases kind with is | is | is <;> simp [is, QueueKind.isPlan]
  rw [s.memberCells_eq member free]
  have starts : s.starts = fun n => (s.slotAt n).startOn && (s.slotAt n).state == .off := by
    funext n
    exact Bool.and_comm _ _
  have due : s.releaseDue = fun n => (s.slotAt n).state == .dropping &&
      (s.claims.table.find? fun e => e.owner == s.own && e.slot == n).any fun e => e.state != .releasing := by
    funext n
    rw [State.releaseDue, State.isMember, member, State.ownEntry_eq]
    simp [EntryState.current_iff]
  have claims : s.claimsAtEntry = fun n => ((s.slotAt n).startOn && (s.slotAt n).state == .off) ||
      (s.slotAt n).state == .wanted := by
    funext n
    rw [State.claimsAtEntry, starts]
  have slots : enteredSlot s = fun n => { s.slotAt n with
      state := if s.claimsAtEntry n then .proposed else (s.slotAt n).state, startOn := false } := rfl
  rw [State.planEdit, slots, claims, starts, due]
  simp [waiting, Function.comp_def]

/-! ### The entry into SUSPECT -/

theorem QueueKind.leaves_iff (k : QueueKind) : (k.isPlan || k == .dump) = (k != .query && k != .bye) := by
  cases k <;> simp [QueueKind.isPlan]

theorem State.queues_query : s.queues .query = s.queue.any fun c => decide (c.kind = .query) := by
  rw [State.queues]
  congr 1
  funext c
  obtain ⟨k, g, m⟩ := c
  cases k <;> simp [QueueKind.place, Fin.ext_iff] <;> omega

theorem countP_or_of_disjoint {α : Type} {p q : α → Bool} (l : List α) (disjoint : ∀ a ∈ l, p a = true → q a = false) :
    l.countP (fun a => p a || q a) = l.countP p + l.countP q := by
  induction l with
  | nil => rfl
  | cons a rest ih =>
    have rest_sum := ih fun x mem => disjoint x (List.mem_cons_of_mem a mem)
    have here := disjoint a List.mem_cons_self
    simp only [List.countP_cons, rest_sum]
    cases hp : p a <;> cases hq : q a <;> simp_all <;> omega

theorem BitVec.sub_ofNat_add {w : Nat} (x : BitVec w) (a b : Nat) :
    x - BitVec.ofNat w a - BitVec.ofNat w b = x - BitVec.ofNat w (a + b) := by
  rw [BitVec.ofNat_add, BitVec.sub_eq_add_neg, BitVec.sub_eq_add_neg, BitVec.sub_eq_add_neg, BitVec.neg_add,
    BitVec.sub_eq_add_neg, BitVec.add_assoc]

/-- Settles O20: the withdrawals, the PROPOSED slots' pass and the QUERY, edit by edit. -/
theorem suspectEntry : Obligations.SuspectEntry := by
  unfold Obligations.SuspectEntry
  intro s why
  simp only []
  set leaves := fun c : QueuedCell => !c.inFlight && c.kind != .query && c.kind != .bye with leaves_is
  set stays := (s.queue.filter fun c => !leaves c).map fun c => if c.kind = .bye then { c with given := none } else c
    with stays_is
  have gone (c : QueuedCell) : ((c.kind.isPlan || c.kind == .dump) && !c.inFlight) = leaves c := by
    rw [QueueKind.leaves_iff, leaves_is, Bool.and_comm, ← Bool.and_assoc]
  have queue : s.planWithdrawn.queue = stays := by
    simp only [State.planWithdrawn, State.withdraw, gone, stays_is, beq_iff_eq]
  have sequence : s.planWithdrawn.membership.sequence = s.membership.sequence -
      BitVec.ofNat 8 (s.queue.countP fun c => c.given.isSome && (leaves c || c.kind == .bye)) := by
    have first : (s.queue.countP fun c => leaves c && c.given.isSome) +
        ((s.queue.filter fun c => !leaves c).countP fun c => c.kind == .bye && c.given.isSome) =
        s.queue.countP fun c => c.given.isSome && (leaves c || c.kind == .bye) := by
      rw [List.countP_filter, ← countP_or_of_disjoint]
      · refine List.countP_congr fun c _ => ?_
        cases leaves c <;> cases c.given.isSome <;> simp
      · intro c _ left
        simp only [Bool.and_eq_true] at left
        simp [left.1]
    rw [← first, ← BitVec.sub_ofNat_add]
    simp only [State.planWithdrawn, State.withdraw, gone]
  have query : (if s.planWithdrawn.queues .query then [] else [QueueKind.query]).map waiting =
      if stays.any fun c => decide (c.kind = .query) then [] else [⟨.query, none, false⟩] := by
    rw [State.queues_query, queue]
    split <;> rfl
  set proposed := (slotOrder.filter fun n => (s.slotAt n).state == .proposed).map fun n => Notice.slot n .wanted .suspect
  have inner : (s.planWithdrawn.forSlots State.suspectSlot).enqueue .query = s.planWithdrawn.planEdit
      (fun n => if (s.slotAt n).state = .proposed then { s.slotAt n with state := .wanted, offAfter := false }
        else s.slotAt n)
      (if s.planWithdrawn.queues .query then [] else [.query]) proposed := by
    rw [State.suspectSlots_eq, State.enqueue_eq_planEdit, State.planEdit_planEdit, State.planEdit_queues]
    simp only [List.any_nil, Bool.or_false, List.append_nil, List.nil_append]
    congr 1
    funext n
    rw [State.planEdit_slotAt]
    rfl
  rw [s.enterSuspect_eq, inner]
  apply State.ext_fields
  case queue => simp only [State.deposit_queue, State.setState, State.planEdit_frames, queue, query]
  case membership =>
    simp only [State.deposit_membership, State.setState, State.planEdit_frames, sequence]
    rfl
  case port =>
    rw [State.depositAll_append]
    refine State.deposit_port (s := s.depositAll proposed) ?_ _
    exact State.depositAll_port (s := s) (t := s.planWithdrawn) rfl proposed
  case claims =>
    rw [State.deposit_claims]
    rfl
  all_goals simp [State.planWithdrawn]

end Entries

end Sys2Proof.Machine
end

section
set_option Elab.async false
/-! O56: the own entries, the slots, and the CLAIMs and RELEASEs queued for them (R4, R20, R25, R26). -/

namespace Sys2Proof.Machine

section Slots

variable {s t : State}

/-! ### The laws, slot by slot -/

/-- A cell of this kind is queued. -/
def State.holds (s : State) (k : QueueKind) : Prop := ∃ c ∈ s.queue, c.kind = k

/-- The state of slot n's own entry. -/
def State.entryState (s : State) (n : SlotNo) : Option EntryState := (s.ownEntry n).map Entry.state

/-- R26, R20, R25: a slot's state against its own entry's and its queued cells. -/
structure slotFits (st : SlotState) (e : Option EntryState) (claim release : Prop) : Prop where
  agrees : slotAgrees st e = true
  claim : claim → st = .proposed
  release : release → st = .dropping ∧ e.any (· != .releasing) = true

/-- Slot n as R26 has it. -/
def State.fitsAt (s : State) (n : SlotNo) : Prop :=
  slotFits (s.slotAt n).state (s.entryState n) (s.holds (.claim n)) (s.holds (.release n))

/-- R4, R26, R20, R25: the plan of a MEMBER or SUSPECT station. -/
structure State.PlanLaws (s : State) : Prop where
  keys : (s.claims.table.map Entry.key).Nodup
  fits : ∀ n, s.fitsAt n

/-- R1, R17: no entry, and every slot OFF or WANTED. -/
structure State.PlanAbsent (s : State) : Prop where
  table : s.claims.table = []
  slots : ∀ n, (s.slotAt n).state = .off ∨ (s.slotAt n).state = .wanted

/-- R26: the plan agrees in MEMBER and SUSPECT; in the other states but MUTED there is none. -/
structure State.SlotLaws (s : State) : Prop where
  inPlan : s.membership.state.inPlan = true → s.PlanLaws
  absent : s.membership.state.inPlan = false → s.isMuted = false → s.PlanAbsent

theorem State.cellAgrees_release (n : SlotNo) :
    s.cellAgrees (.release n) = true ↔ (s.slotAt n).state = .dropping ∧ (s.entryState n).any (· != .releasing) = true := by
  simp only [State.cellAgrees, Bool.and_eq_true, beq_iff_eq, State.entryState]
  cases s.ownEntry n <;> simp

theorem State.planLaws_iff :
    s.PlanLaws ↔ (s.claims.table.map Entry.key).Nodup ∧ (∀ n, slotAgrees (s.slotAt n).state (s.entryState n) = true) ∧
      ∀ c ∈ s.queue, s.cellAgrees c.kind = true := by
  constructor
  · intro h
    refine ⟨h.keys, fun n => (h.fits n).agrees, fun c mem => ?_⟩
    cases kind : c.kind with
    | claim n => simpa [State.cellAgrees] using (h.fits n).claim ⟨c, mem, kind⟩
    | release n => exact (State.cellAgrees_release n).2 ((h.fits n).release ⟨c, mem, kind⟩)
    | _ => rfl
  · rintro ⟨keys, slots, cells⟩
    refine ⟨keys, fun n => ⟨slots n, ?_, ?_⟩⟩
    · rintro ⟨c, mem, kind⟩
      simpa [kind, State.cellAgrees] using cells c mem
    · rintro ⟨c, mem, kind⟩
      exact (State.cellAgrees_release n).1 (kind ▸ cells c mem)

theorem State.planAgrees_iff :
    s.planAgrees = true ↔ s.PlanLaws ∧ ∀ f, s.link.flight = some f → f.namesItsSlot = true := by
  rw [State.planLaws_iff]
  simp only [State.planAgrees, Bool.and_eq_true, decide_eq_true_eq, List.all_eq_true, forall_mem_slotOrder, and_assoc,
    Option.all_eq_true]
  rfl

theorem State.planAbsent_iff : s.planAbsent = true ↔ s.PlanAbsent := by
  simp only [State.planAbsent, Bool.and_eq_true, List.isEmpty_iff, List.all_eq_true, forall_mem_slotOrder, Bool.or_eq_true,
    beq_iff_eq]
  exact ⟨fun ⟨a, b⟩ => ⟨a, b⟩, fun h => ⟨h.table, h.slots⟩⟩

theorem State.slotsLawful_iff : s.slotsLawful = true ↔
    s.SlotLaws ∧ (s.membership.state.inPlan = true → ∀ f, s.link.flight = some f → f.namesItsSlot = true) := by
  have split : s.SlotLaws ↔ (s.membership.state.inPlan = true → s.PlanLaws) ∧
      (s.membership.state.inPlan = false → s.isMuted = false → s.PlanAbsent) :=
    ⟨fun h => ⟨h.inPlan, h.absent⟩, fun h => ⟨h.1, h.2⟩⟩
  rw [split]
  unfold State.slotsLawful State.isMuted
  cases s.membership.state <;> simp [StationState.inPlan, State.planAgrees_iff, State.planAbsent_iff]

/-! ### The table's entries (R4) -/

/-- R4: with distinct keys, the entry found for a key is the one that has it. -/
theorem find?_key_eq_some {l : List Entry} {k : TileKey} {e : Entry} (keys : (l.map Entry.key).Nodup) :
    (l.find? fun e => e.key == k) = some e ↔ e ∈ l ∧ e.key = k := by
  constructor
  · intro is
    exact ⟨List.mem_of_find?_eq_some is, by simpa using List.find?_some is⟩
  · rintro ⟨mem, rfl⟩
    cases found : l.find? fun d => d.key == e.key with
    | none => simpa using List.find?_eq_none.1 found e mem
    | some d =>
      have same : d.key = e.key := by simpa using List.find?_some found
      rw [List.inj_on_of_nodup_map keys (List.mem_of_find?_eq_some found) mem same]

theorem State.entryOf_eq_some {k : TileKey} {e : Entry} (keys : (s.claims.table.map Entry.key).Nodup) :
    s.entryOf k = some e ↔ e ∈ s.claims.table ∧ e.key = k := find?_key_eq_some keys

theorem State.entryOf_eq_none {k : TileKey} : s.entryOf k = none ↔ ∀ e ∈ s.claims.table, e.key ≠ k := by
  simp [State.entryOf]

/-- A table edit that keeps the entries of a key, and adds none, keeps that key's entry. -/
theorem find?_filter_of_kept {α : Type} {p q : α → Bool} {l : List α} (kept : ∀ a ∈ l, q a = true → p a = true) :
    (l.filter p).find? q = l.find? q := by
  induction l with
  | nil => rfl
  | cons a rest ih =>
    have tail := ih fun x mem => kept x (List.mem_cons_of_mem a mem)
    by_cases keep : p a = true
    · rw [List.filter_cons_of_pos keep, List.find?_cons, List.find?_cons, tail]
    · have other : q a = false := by
        by_contra is
        exact keep (kept a List.mem_cons_self (by simpa using is))
      rw [List.filter_cons_of_neg keep, List.find?_cons, other, tail]

/-! ### What keeps the laws -/

theorem slotFits.fewer {st : SlotState} {e : Option EntryState} {c r c' r' : Prop} (h : slotFits st e c r)
    (claim : c' → c) (release : r' → r) : slotFits st e c' r' :=
  ⟨h.agrees, fun is => h.claim (claim is), fun is => h.release (release is)⟩

/-- With no cell queued for a slot, its state and its entry's are all there is to agree. -/
theorem slotFits.bare {st : SlotState} {e : Option EntryState} {c r : Prop} (agrees : slotAgrees st e = true) (claim : ¬ c)
    (release : ¬ r) : slotFits st e c r := ⟨agrees, fun is => absurd is claim, fun is => absurd is release⟩

/-- A slot that is OFF, WANTED, PROPOSED or WAITING has no own entry. -/
def SlotState.entryless : SlotState → Bool
  | .off => true
  | .wanted => true
  | .proposed => true
  | .waiting _ => true
  | .active => false
  | .dropping => false

theorem slotAgrees_entryless {st : SlotState} {e : Option EntryState} (entryless : st.entryless = true) :
    slotAgrees st e = e.isNone := by
  cases st <;> simp [slotAgrees, SlotState.entryless] at entryless ⊢

theorem State.holds_congr_of_sub {k : QueueKind} (sub : ∀ c ∈ t.queue, ∃ d ∈ s.queue, d.kind = c.kind) (h : t.holds k) :
    s.holds k := by
  obtain ⟨c, mem, rfl⟩ := h
  exact sub c mem

theorem State.entryState_congr (table : t.claims.table = s.claims.table) (words : t.strap.words = s.strap.words)
    (n : SlotNo) : t.entryState n = s.entryState n := by
  rw [State.entryState, State.entryState, State.ownEntry, State.ownEntry, State.entryOf, State.entryOf, table,
    State.ownKey, State.ownKey, State.own_congr words]

/-- The same slots and the same table, with no cell queued anew. -/
theorem State.PlanLaws.congr (h : s.PlanLaws) (slots : ∀ n, (t.slotAt n).state = (s.slotAt n).state)
    (table : t.claims.table = s.claims.table) (words : t.strap.words = s.strap.words)
    (queue : ∀ c ∈ t.queue, ∃ d ∈ s.queue, d.kind = c.kind) : t.PlanLaws where
  keys := by rw [table]; exact h.keys
  fits n := by
    rw [State.fitsAt, slots, State.entryState_congr table words]
    exact (h.fits n).fewer (State.holds_congr_of_sub queue) (State.holds_congr_of_sub queue)

theorem queued_of_sublist {q r : List QueuedCell} (sub : r.Sublist q) : ∀ c ∈ r, ∃ d ∈ q, d.kind = c.kind :=
  fun c mem => ⟨c, sub.subset mem, rfl⟩

theorem queued_of_eq {q r : List QueuedCell} (same : r = q) : ∀ c ∈ r, ∃ d ∈ q, d.kind = c.kind :=
  queued_of_sublist (by rw [same])

/-- R163: a cell of no slot joins. -/
theorem State.PlanLaws.enqueue (h : s.PlanLaws) {k : QueueKind} (claim : ∀ n, k ≠ .claim n) (release : ∀ n, k ≠ .release n) :
    (s.enqueue k).PlanLaws where
  keys := by simpa using h.keys
  fits n := by
    have old {j : QueueKind} (other : k ≠ j) (is : (s.enqueue k).holds j) : s.holds j := by
      obtain ⟨c, mem, rfl⟩ := is
      rw [State.enqueue_queue] at mem
      split at mem
      · exact ⟨c, mem, rfl⟩
      · rcases List.mem_append.1 mem with mem | mem
        · exact ⟨c, mem, rfl⟩
        · rw [List.mem_singleton.1 mem] at other; exact absurd rfl other
    rw [State.fitsAt, State.entryState_congr (s := s) (by simp) (by simp), State.slotAt, State.enqueue_claims]
    exact (h.fits n).fewer (old (claim n)) (old (release n))

/-- What an edit of slots, queue and notices needs to keep the laws: slot by slot, with the cells that join. -/
theorem State.PlanLaws.planEdit (keys : (s.claims.table.map Entry.key).Nodup) {slots : SlotNo → Slot}
    {cells : List QueueKind}
    {notes : List Notice}
    (fits : ∀ n, slotFits (slots n).state (s.entryState n) (s.holds (.claim n) ∨ .claim n ∈ cells)
      (s.holds (.release n) ∨ .release n ∈ cells)) : (s.planEdit slots cells notes).PlanLaws where
  keys := by simpa using keys
  fits n := by
    have cases {k : QueueKind} (is : (s.planEdit slots cells notes).holds k) : s.holds k ∨ k ∈ cells := by
      obtain ⟨c, mem, rfl⟩ := is
      rw [(s.planEdit_frames slots cells notes).2.2.2.2.2.2.2.2.2.2.2.2.2.1] at mem
      rcases List.mem_append.1 mem with mem | mem
      · exact .inl ⟨c, mem, rfl⟩
      · obtain ⟨k, member, rfl⟩ := List.mem_map.1 mem
        exact .inr member
    rw [State.fitsAt, State.planEdit_slotAt, State.entryState_congr (s := s) (by simp) (by simp)]
    exact (fits n).fewer cases cases

/-- R20: served slots become PROPOSED with their CLAIMs. -/
theorem State.PlanLaws.serveClaims (h : s.PlanLaws) : s.serveClaims.PlanLaws := by
  rw [State.serveClaims_eq]
  refine State.PlanLaws.planEdit h.keys fun n => ?_
  have fits := h.fits n
  have joins : QueueKind.claim n ∈ (slotOrder.filter fun n => s.serves n && !s.queues (.claim n)).map .claim →
      s.serves n = true := by
    intro mem
    obtain ⟨m, member, is⟩ := List.mem_map.1 mem
    cases is
    have := (List.mem_filter.1 member).2
    simp only [Bool.and_eq_true] at this
    exact this.1
  have none : QueueKind.release n ∉ (slotOrder.filter fun n => s.serves n && !s.queues (.claim n)).map .claim := by simp
  by_cases serves : s.serves n = true
  · have wanted : (s.slotAt n).state = .wanted := by
      simp only [State.serves, Bool.and_eq_true, beq_iff_eq] at serves
      exact serves.1.1
    rw [if_pos serves]
    refine ⟨?_, fun _ => rfl, fun is => ?_⟩
    · simpa [slotAgrees, wanted] using fits.agrees
    · simpa [wanted] using fits.release (is.resolve_right none)
  · rw [if_neg serves]
    exact fits.fewer (fun is => is.resolve_right fun mem => serves (joins mem)) fun is => is.resolve_right none

/-- R25: due RELEASEs join. -/
theorem State.PlanLaws.serveReleases (h : s.PlanLaws) : s.serveReleases.PlanLaws := by
  rw [State.serveReleases_eq]
  refine State.PlanLaws.planEdit h.keys fun n => ?_
  refine ⟨(h.fits n).agrees, fun is => (h.fits n).claim (is.resolve_right (by simp)), fun is => ?_⟩
  rcases is with is | mem
  · exact (h.fits n).release is
  · obtain ⟨m, member, is⟩ := List.mem_map.1 mem
    cases is
    have due := (List.mem_filter.1 member).2
    simp only [State.releaseDue, Bool.and_eq_true, beq_iff_eq] at due
    obtain ⟨⟨⟨dropping, -⟩, entry⟩, -⟩ := due
    refine ⟨dropping, ?_⟩
    rw [State.entryState]
    cases found : s.ownEntry n <;> simp_all [EntryState.current_iff]

/-- R19: marked OFF slots become WANTED. -/
theorem State.PlanLaws.startOnSlots (h : s.PlanLaws) : s.startOnSlots.PlanLaws := by
  rw [State.startOnSlots_eq]
  refine State.PlanLaws.planEdit h.keys fun n => ?_
  have fits := h.fits n
  by_cases starts : s.starts n = true
  · have off : (s.slotAt n).state = .off := by
      simp only [State.starts, Bool.and_eq_true, beq_iff_eq] at starts
      exact starts.1
    have agrees := fits.agrees
    rw [off, slotAgrees_entryless rfl] at agrees
    simp only [starts, if_true]
    refine slotFits.bare ?_ ?_ ?_
    · rw [slotAgrees_entryless rfl]; exact agrees
    · simpa using fun is => by simpa [off] using fits.claim is
    · simpa using fun is => by simpa [off] using fits.release is
  · simp only [starts, if_false, Bool.false_eq_true]
    exact fits.fewer (fun is => is.resolve_right (by simp)) fun is => is.resolve_right (by simp)

/-- R65: the cells of an entry into MEMBER. -/
theorem State.PlanLaws.memberCells (h : s.PlanLaws) : s.memberCells.PlanLaws :=
  (h.enqueue (by simp) (by simp)).startOnSlots.serveClaims.serveReleases

end Slots

end Sys2Proof.Machine
end

section
set_option Elab.async false
/-! O56, the commands: what CLAIMs, RELEASEs, closes, installs and the requests make of the slots (R11, R12, R15, R25,
R26, R84, R93, R95). -/

namespace Sys2Proof.Machine

section SlotOps

variable {s t : State}

/-! ### The table's part of the plan's cells -/

theorem not_claim_of_fits {st : SlotState} {e : Option EntryState} {c r : Prop} (fits : slotFits st e c r)
    (other : st ≠ .proposed) : ¬ c := fun is => other (fits.claim is)

theorem not_release_of_fits {st : SlotState} {e : Option EntryState} {c r : Prop} (fits : slotFits st e c r)
    (other : st ≠ .dropping) : ¬ r := fun is => other (fits.release is).1

/-- The keys and the own entries of a table are all of it that the slots see. -/
theorem State.PlanLaws.table (h : s.PlanLaws) (keys : (t.claims.table.map Entry.key).Nodup)
    (entries : ∀ n, t.entryState n = s.entryState n) (slots : ∀ n, (t.slotAt n).state = (s.slotAt n).state)
    (queue : ∀ c ∈ t.queue, ∃ d ∈ s.queue, d.kind = c.kind) : t.PlanLaws where
  keys := keys
  fits n := by
    rw [State.fitsAt, slots, entries]
    exact (h.fits n).fewer (State.holds_congr_of_sub queue) (State.holds_congr_of_sub queue)

/-- R11: an entry joins the table. -/
def State.joined (s : State) (e : Entry) : State :=
  { s with claims := { s.claims with table := s.claims.table ++ [e] } }

theorem State.joined_entryState (e : Entry) (n : SlotNo) :
    (s.joined e).entryState n = (s.entryState n).or (if e.key = s.ownKey n then some e.state else none) := by
  have own : (s.joined e).ownKey n = s.ownKey n := rfl
  rw [State.entryState, State.ownEntry, State.entryOf, own, State.joined, List.find?_append, State.entryState,
    State.ownEntry, State.entryOf]
  cases s.claims.table.find? fun e => e.key == s.ownKey n with
  | some _ => rfl
  | none => by_cases is : e.key = s.ownKey n <;> simp [is]

theorem State.joined_keys (h : (s.claims.table.map Entry.key).Nodup) {e : Entry}
    (fresh : ∀ d ∈ s.claims.table, d.key ≠ e.key) :
    ((s.joined e).claims.table.map Entry.key).Nodup := by
  rw [State.joined, List.map_append]
  refine List.Nodup.append h (List.nodup_singleton _) ?_
  intro k mem is
  rw [List.map_singleton, List.mem_singleton] at is
  obtain ⟨d, member, rfl⟩ := List.mem_map.1 mem
  exact fresh d member is

theorem State.judgeClaim_fresh {i : Station} {b : ClaimBody} (accepted : s.judgeClaim i b = none) :
    ∀ d ∈ s.claims.table, d.key ≠ ⟨i, Fin.ofNat 4 b.slot.toNat⟩ := by
  have fresh : (s.claims.table.any fun e => e.key == ⟨i, Fin.ofNat 4 b.slot.toNat⟩) = false := by
    by_contra duplicate
    unfold State.judgeClaim at accepted
    rw [Bool.not_eq_false] at duplicate
    simp only [duplicate] at accepted
    split at accepted
    · cases accepted
    split at accepted
    · cases accepted
    split at accepted <;> cases accepted
  simpa using fresh

/-- The slot of the CLAIM or RELEASE that this cell is, as its payload names it. -/
def sentCell (hd : Header) (p : Option (List Byte)) : Option QueueKind :=
  match Kind.ofCode hd.kind, p with
  | some .claim, some bytes => some (.claim (Fin.ofNat 4 (claimOf bytes).slot.toNat))
  | some .release, some bytes => some (.release (Fin.ofNat 4 (bytes.getD 0 0).toNat))
  | _, _ => none

/-- What is known of a cell of the plan: another station's names another owner; the own CLAIM or RELEASE is for a slot
that still stands as it was sent for, and has left the queue. -/
structure OwnFits (hd : Header) (p : Option (List Byte)) (own : Option Flight) (s : State) : Prop where
  peer : own = none → hd.sender ≠ s.own
  sent : own.isSome = true → ∀ k, sentCell hd p = some k → hd.sender = s.own ∧ s.cellAgrees k = true ∧ ¬ s.holds k

theorem claimedEntry_key (i : Station) (b : ClaimBody) (crop : Option Crop) :
    (claimedEntry i b crop).key = ⟨i, Fin.ofNat 4 b.slot.toNat⟩ := rfl

/-- R11, R6: another station's CLAIM leaves the own slots alone. -/
theorem State.PlanLaws.applyClaim_peer {i : Station} (b : ClaimBody) (h : s.PlanLaws) (other : i ≠ s.own) :
    (s.applyClaim i b none).PlanLaws := by
  unfold State.applyClaim
  simp only [Option.isSome_none, Bool.false_eq_true, if_false]
  split
  · next accepted =>
    refine h.table (State.joined_keys h.keys (State.judgeClaim_fresh accepted)) (fun n => ?_) (fun _ => rfl)
      (queued_of_eq rfl)
    have not_own : (claimedEntry i b none).key ≠ s.ownKey n := fun is => other (congrArg TileKey.owner is)
    exact (State.joined_entryState (claimedEntry i b none) n).trans (by rw [if_neg not_own, Option.or_none])
  · exact h

/-- One slot changes, with its cells and notices; the other slots stay as they are. -/
theorem State.PlanLaws.change_slot {n : SlotNo} {sl : Slot} {cells : List QueueKind} {notes : List Notice} (h : s.PlanLaws)
    (joining : ∀ k ∈ cells, k = .claim n ∨ k = .release n)
    (fits : slotFits sl.state (s.entryState n) (s.holds (.claim n) ∨ .claim n ∈ cells)
      (s.holds (.release n) ∨ .release n ∈ cells)) :
    (s.planEdit (fun m => if m = n then sl else s.slotAt m) cells notes).PlanLaws := by
  refine State.PlanLaws.planEdit h.keys fun m => ?_
  by_cases is : m = n
  · subst is
    simpa using fits
  · rw [if_neg is]
    refine (h.fits m).fewer (fun held => held.resolve_right fun mem => ?_) fun held => held.resolve_right fun mem => ?_
    · rcases joining _ mem with eq | eq <;> cases eq
      exact is rfl
    · rcases joining _ mem with eq | eq <;> cases eq
      exact is rfl

theorem State.PlanLaws.setSlot {n : SlotNo} {sl : Slot} (h : s.PlanLaws)
    (fits : slotFits sl.state (s.entryState n) (s.holds (.claim n)) (s.holds (.release n))) :
    (s.setSlot n sl).PlanLaws := by
  rw [State.setSlot_eq_planEdit]
  exact h.change_slot (by simp) (by simpa using fits)

theorem State.PlanLaws.deposit (x : Notice) (h : s.PlanLaws) : (s.deposit x).PlanLaws :=
  h.congr (fun n => by rw [State.slotAt, State.deposit_claims, State.slotAt]) (by simp) (by simp) (queued_of_eq (by simp))

/-- R22: a refused CLAIM leaves its slot without an entry, in a state that has none. -/
theorem State.PlanLaws.claimRefused {n : SlotNo} (why : ClaimRefusal) (h : s.PlanLaws)
    (proposed : (s.slotAt n).state = .proposed)
    (sent : ¬ s.holds (.claim n)) : (s.claimRefused n why).PlanLaws := by
  have fits := h.fits n
  have outcome (st : SlotState) (c : SlotCause) (entryless : st.entryless = true) :
      ((s.setSlot n { s.slotAt n with state := st, offAfter := false }).deposit (.slot n st c)).PlanLaws := by
    refine (h.setSlot (slotFits.bare ?_ sent (not_release_of_fits fits (by simp [proposed])))).deposit _
    have agrees := fits.agrees
    rw [proposed, slotAgrees_entryless rfl] at agrees
    exact (slotAgrees_entryless entryless).trans agrees
  have opens : (State.serveClaims { (s.setSlot n { s.slotAt n with
      state := refusedState (Config.refusedSlot s.free), offAfter := false }).deposit
      (.slot n (refusedState (Config.refusedSlot s.free)) (.unlisted (Config.refusedCauseCode s.free))) with
      free := ((s.setSlot n { s.slotAt n with state := refusedState (Config.refusedSlot s.free), offAfter := false }).deposit
      (.slot n (refusedState (Config.refusedSlot s.free))
        (.unlisted (Config.refusedCauseCode s.free)))).free + 1 }).PlanLaws := by
    refine State.PlanLaws.serveClaims ((outcome _ _ ?_).congr (fun _ => rfl) rfl rfl (queued_of_eq rfl))
    cases Config.refusedSlot s.free <;> rfl
  unfold State.claimRefused
  cases why with
  | full => exact outcome _ _ (by split <;> rfl)
  | overlap => exact outcome _ _ (by split <;> rfl)
  | notMember => exact opens
  | range => exact opens
  | width => exact opens
  | duplicate => exact opens

/-- R11, R21: the own CLAIM accepted: the slot is ACTIVE, or DROPPING with its RELEASE, and its entry PENDING. -/
theorem State.PlanLaws.claimAccepted {n : SlotNo} {e : Entry} (h : s.PlanLaws) (key : e.key = s.ownKey n)
    (pending : e.state = .pending)
    (fresh : ∀ d ∈ s.claims.table, d.key ≠ e.key) (proposed : (s.slotAt n).state = .proposed) (sent : ¬ s.holds (.claim n)) :
    ((s.joined e).claimAccepted n).PlanLaws := by
  have none : s.entryState n = none := by
    have agrees := (h.fits n).agrees
    rw [proposed, slotAgrees_entryless rfl] at agrees
    simpa using agrees
  have own : (s.joined e).entryState n = some .pending := by
    rw [State.joined_entryState, none, if_pos key, pending]; rfl
  have others (m : SlotNo) (other : m ≠ n) : (s.joined e).entryState m = s.entryState m := by
    have ne : e.key ≠ s.ownKey m := by
      rw [key]
      exact fun is => other (congrArg TileKey.slot is).symm
    rw [State.joined_entryState, if_neg ne, Option.or_none]
  have released : ¬ s.holds (.release n) := not_release_of_fits (h.fits n) (by simp [proposed])
  have laws (sl : Slot) (cells : List QueueKind) (notes : List Notice) (joining : ∀ k ∈ cells, k = .release n)
      (fits : slotFits sl.state (some .pending) False (.release n ∈ cells)) :
      ((s.joined e).planEdit (fun m => if m = n then sl else s.slotAt m) cells notes).PlanLaws := by
    refine State.PlanLaws.planEdit (State.joined_keys h.keys fresh) fun m => ?_
    by_cases is : m = n
    · subst is
      rw [if_pos rfl, own]
      exact fits.fewer (fun held => held.elim sent fun mem => by cases joining _ mem) fun held => held.resolve_left released
    · rw [if_neg is, others m is]
      refine (h.fits m).fewer (fun held => held.resolve_right fun mem => by cases joining _ mem) fun held =>
        held.resolve_right fun mem => ?_
      cases joining _ mem
      exact is rfl
  unfold State.claimAccepted
  have slot : (s.joined e).slotAt n = s.slotAt n := rfl
  split
  · rw [State.setSlot_enqueue]
    refine (laws _ _ _ (fun k mem => ?_) ⟨rfl, False.elim, fun _ => ⟨rfl, rfl⟩⟩).deposit _
    split at mem
    · cases mem
    · exact List.mem_singleton.1 mem
  · rw [State.setSlotState, State.setSlot_deposit]
    exact laws _ _ _ (by simp) ⟨rfl, False.elim, fun mem => by cases mem⟩

theorem State.PlanLaws.applyClaim {hd : Header} {bytes : List Byte} {own : Option Flight} (h : s.PlanLaws)
    (claim : Kind.ofCode hd.kind = some .claim) (fits : OwnFits hd (some bytes) own s) :
    (s.applyClaim hd.sender (claimOf bytes) (own.map Flight.crop)).PlanLaws := by
  cases own with
  | none => exact h.applyClaim_peer _ (fits.peer rfl)
  | some f =>
    obtain ⟨sender, agrees, gone⟩ :=
      fits.sent rfl (.claim (Fin.ofNat 4 (claimOf bytes).slot.toNat)) (by simp [sentCell, claim])
    have proposed : (s.slotAt (Fin.ofNat 4 (claimOf bytes).slot.toNat)).state = .proposed := by
      simpa [State.cellAgrees] using agrees
    unfold State.applyClaim
    simp only [Option.map_some, Option.isSome_some, if_true]
    split
    · next accepted =>
      exact h.claimAccepted (by rw [claimedEntry_key, sender]; rfl) rfl (State.judgeClaim_fresh accepted) proposed gone
    · exact h.claimRefused _ proposed gone

/-! ### RELEASE (R12, R25) -/

/-- The table keeps the keys and the own entries' states under an edit of entries of another key. -/
theorem State.PlanLaws.setTable {l : List Entry} (h : s.PlanLaws) (mark : Bool) (keys : (l.map Entry.key).Nodup)
    (entries : ∀ n, (l.find? fun e => e.key == s.ownKey n).map Entry.state = s.entryState n) :
    State.PlanLaws { s with claims := { s.claims with table := l, removalMark := mark } } :=
  h.table keys entries (fun _ => rfl) (queued_of_eq rfl)

theorem withoutKey_find {l : List Entry} {k q : TileKey} (other : k ≠ q) :
    (withoutKey l k).find? (fun e => e.key == q) = l.find? fun e => e.key == q := by
  refine find?_filter_of_kept fun e _ is => ?_
  simp only [beq_iff_eq] at is
  simpa [is] using other.symm

theorem withoutKey_keys {l : List Entry} (k : TileKey) (h : (l.map Entry.key).Nodup) :
    ((withoutKey l k).map Entry.key).Nodup := h.sublist (List.filter_sublist.map _)

theorem releaseKey_keys (l : List Entry) (k : TileKey) : (releaseKey l k).map Entry.key = l.map Entry.key := by
  simp only [releaseKey, List.map_map]
  refine List.map_congr_left fun e _ => ?_
  simp only [Function.comp]
  split <;> rfl

/-- The entries of a key behind its RELEASE. -/
theorem releaseKey_find (l : List Entry) (k q : TileKey) :
    ((releaseKey l k).find? fun e => e.key == q).map Entry.state =
      (l.find? fun e => e.key == q).map fun e => if e.key == k then .releasing else e.state := by
  rw [releaseKey, List.find?_map, Option.map_map]
  congr 1
  · funext e
    simp only [Function.comp]
    split <;> rfl
  · congr 1
    funext e
    simp only [Function.comp]
    split <;> rfl

theorem find?_key_map {l : List Entry} {q : TileKey} {f g : Entry → EntryState} (same : ∀ e, e.key = q → f e = g e) :
    (l.find? fun e => e.key == q).map f = (l.find? fun e => e.key == q).map g := by
  cases found : l.find? fun e => e.key == q with
  | none => rfl
  | some e => simp [same e (by simpa using List.find?_some found)]

/-- R12, R6: another station's RELEASE leaves the own slots alone. -/
theorem State.PlanLaws.applyRelease_peer {i : Station} (b : Byte) (h : s.PlanLaws) (other : i ≠ s.own) :
    (s.applyRelease i b false).PlanLaws := by
  have ne (m n : SlotNo) : (⟨i, m⟩ : TileKey) ≠ s.ownKey n := fun is => other (congrArg TileKey.owner is)
  unfold State.applyRelease
  simp only [Bool.false_eq_true, if_false]
  split
  · exact h
  split
  · exact h
  split
  · exact h.setTable _ (withoutKey_keys _ h.keys) fun n => by rw [withoutKey_find (ne _ n)]; rfl
  · refine h.setTable _ (by rw [releaseKey_keys]; exact h.keys) fun n => ?_
    rw [releaseKey_find]
    refine find?_key_map fun e is => if_neg ?_
    rw [is]
    simpa using (ne _ n).symm
  · exact h

/-- R12, R25: the own RELEASE of a DROPPING slot: a PENDING entry and the slot go, a HELD entry is RELEASING. -/
theorem State.PlanLaws.applyRelease_own {n : SlotNo} {b : Byte} (h : s.PlanLaws) (slot : n = Fin.ofNat 4 b.toNat)
    (agrees : s.cellAgrees (.release n) = true) (gone : ¬ s.holds (.release n)) :
      (s.applyRelease s.own b true).PlanLaws := by
  obtain ⟨dropping, entry⟩ := (State.cellAgrees_release n).1 agrees
  have claims : ¬ s.holds (.claim n) := not_claim_of_fits (h.fits n) (by simp [dropping])
  have other (m : SlotNo) (ne : m ≠ n) : (⟨s.own, n⟩ : TileKey) ≠ s.ownKey m := fun is => ne (congrArg TileKey.slot is).symm
  unfold State.applyRelease
  simp only [if_true, ← slot]
  split
  · exact h
  split
  · next none =>
    rw [State.entryState, State.ownEntry, State.ownKey, none] at entry
    cases entry
  next e found =>
  split
  · next pending =>
    set l := withoutKey s.claims.table ⟨s.own, n⟩ with l_is
    have none : (l.find? fun e => e.key == s.ownKey n) = none := by
      rw [l_is, withoutKey, List.find?_eq_none]
      intro e mem is
      have := (List.mem_filter.1 mem).2
      have key : e.key = s.ownKey n := by simpa using is
      simp [key, State.ownKey] at this
    set u : State := { s with claims := { s.claims with table := l, removalMark := true } } with u_is
    have slot_u : (u.slotAt n).state = .dropping := dropping
    rw [State.slotReleased, if_pos (by simpa using slot_u), State.changeSlot, State.setSlotState, State.setSlot_deposit]
    refine State.PlanLaws.planEdit (withoutKey_keys _ h.keys) fun m => ?_
    by_cases is : m = n
    · subst is
      rw [if_pos rfl]
      refine slotFits.bare ?_ (fun held => held.elim claims (by simp)) fun held => held.elim gone (by simp)
      rw [slotAgrees_entryless rfl]
      rw [show u.entryState m = (l.find? fun e => e.key == s.ownKey m).map Entry.state from rfl, none]
      rfl
    · rw [if_neg is, show u.entryState m = s.entryState m by
        show (l.find? fun e => e.key == s.ownKey m).map Entry.state = _
        rw [l_is, withoutKey_find (other m is)]; rfl]
      exact (h.fits m).fewer (fun is => is.resolve_right (by simp)) fun is => is.resolve_right (by simp)
  · refine ⟨by rw [releaseKey_keys]; exact h.keys, fun m => ?_⟩
    have fits := h.fits m
    set u : State := { s with claims := { s.claims with table := releaseKey s.claims.table ⟨s.own, n⟩ } }
    have entries : u.entryState m = (s.claims.table.find? fun e => e.key == s.ownKey m).map
        fun e => if e.key == ⟨s.own, n⟩ then .releasing else e.state := releaseKey_find _ _ _
    by_cases is : m = n
    · subst is
      refine slotFits.bare ?_ claims gone
      rw [show (u.slotAt m).state = .dropping from dropping, entries,
        show (s.claims.table.find? fun e => e.key == s.ownKey m) = some e from found]
      rfl
    · have same : u.entryState m = s.entryState m := by
        rw [entries, State.entryState, State.ownEntry, State.entryOf]
        refine find?_key_map fun e key => if_neg ?_
        rw [key]
        simpa using (other m is).symm
      rw [State.fitsAt, same]
      exact fits
  · exact h

theorem State.PlanLaws.applyRelease {hd : Header} {bytes : List Byte} {own : Option Flight} (h : s.PlanLaws)
    (release : Kind.ofCode hd.kind = some .release) (fits : OwnFits hd (some bytes) own s) :
    (s.applyRelease hd.sender (bytes.getD 0 0) own.isSome).PlanLaws := by
  cases own with
  | none => exact h.applyRelease_peer _ (fits.peer rfl)
  | some f =>
    obtain ⟨sender, agrees, gone⟩ :=
      fits.sent rfl (.release (Fin.ofNat 4 (bytes.getD 0 0).toNat)) (by simp [sentCell, release])
    rw [sender]
    exact h.applyRelease_own rfl agrees gone

end SlotOps

end Sys2Proof.Machine
end

section
set_option Elab.async false
/-! O56, closes, installs and the entry into SUSPECT: what they make of the slots (R13, R15, R26, R84, R93, R95). -/

namespace Sys2Proof.Machine

section SlotLaws

variable {s t : State}

/-! ### A close (R15) -/

/-- R15, steps 1 to 3: the own entry behind a close: a RELEASING one leaves, any other is HELD. -/
def openedEntry : Option EntryState → Option EntryState
  | none => none
  | some .pending => some .held
  | some .held => some .held
  | some .releasing => none

/-- R63: the own entry is not aged, so the own entries leave only when they are RELEASING. -/
theorem State.leavesAtOpen_own {e : Entry} (own : e.owner = s.own) : s.leavesAtOpen e = (e.state == .releasing) := by
  have kept : (s.agedRoster[e.owner]).present = s.present e.owner := by
    rw [State.agedRoster_get, agedEntry_unaged (by simp [own])]
    rfl
  rw [State.leavesAtOpen, kept]
  cases s.present e.owner <;> simp

theorem State.openedTable_keys (keys : (s.claims.table.map Entry.key).Nodup) : (s.openedTable.map Entry.key).Nodup := by
  have same : s.openedTable.map Entry.key = (s.claims.table.filter fun e => !s.leavesAtOpen e).map Entry.key := by
    rw [State.openedTable, List.map_map]
    refine List.map_congr_left fun e _ => ?_
    simp only [Function.comp]
    split <;> rfl
  rw [same]
  exact keys.sublist (List.filter_sublist.map _)

theorem mem_openedTable_key {x : Entry} (mem : x ∈ s.openedTable) :
    ∃ e ∈ s.claims.table, s.leavesAtOpen e = false ∧ e.key = x.key := by
  obtain ⟨e, kept, rfl⟩ := List.mem_map.1 mem
  obtain ⟨old, stays⟩ := List.mem_filter.1 kept
  exact ⟨e, old, by simpa using stays, by split <;> rfl⟩

/-- R15: the state of slot n's own entry in the opened table. -/
theorem State.openedTable_entryState (keys : (s.claims.table.map Entry.key).Nodup) (n : SlotNo) :
    (s.openedTable.find? fun e => e.key == s.ownKey n).map Entry.state = openedEntry (s.entryState n) := by
  rw [State.entryState]
  cases found : s.ownEntry n with
  | none =>
    have none : (s.openedTable.find? fun e => e.key == s.ownKey n) = Option.none := by
      rw [List.find?_eq_none]
      intro x mem is
      obtain ⟨e, old, -, key⟩ := mem_openedTable_key mem
      exact State.entryOf_eq_none.1 found e old (key.trans (by simpa using is))
    rw [none]; rfl
  | some e =>
    obtain ⟨mem, key⟩ := (State.entryOf_eq_some keys).1 found
    have leaves := State.leavesAtOpen_own (s := s) (e := e) (congrArg TileKey.owner key)
    by_cases releasing : e.state = .releasing
    · have none : (s.openedTable.find? fun e => e.key == s.ownKey n) = Option.none := by
        rw [List.find?_eq_none]
        intro x member is
        obtain ⟨d, old, stays, same⟩ := mem_openedTable_key member
        obtain rfl := List.inj_on_of_nodup_map keys old mem (same.trans ((by simpa using is : x.key = _).trans key.symm))
        simp [leaves, releasing] at stays
      rw [none, Option.map_some, releasing]; rfl
    · have stays : (s.openedTable.find? fun e => e.key == s.ownKey n) =
          some (if e.state == .pending then { e with state := .held } else e) := by
        refine (find?_key_eq_some (State.openedTable_keys keys)).2 ⟨List.mem_map.2 ⟨e, List.mem_filter.2 ⟨mem, ?_⟩, rfl⟩, ?_⟩
        · simpa [leaves] using releasing
        · rw [← key]; split <;> rfl
      rw [stays]
      cases state : e.state <;> simp [state, openedEntry] at releasing ⊢

/-- R15: whether slot n's own entry left. -/
theorem State.left_any (keys : (s.claims.table.map Entry.key).Nodup) (n : SlotNo) :
    ((s.claims.table.filter s.leavesAtOpen).any fun e => e.key == s.ownKey n) = (s.entryState n == some .releasing) := by
  rw [Bool.eq_iff_iff, List.any_eq_true]
  simp only [beq_iff_eq, State.entryState, Option.map_eq_some_iff]
  constructor
  · rintro ⟨e, mem, key⟩
    obtain ⟨mem, leaves⟩ := List.mem_filter.1 mem
    refine ⟨e, (State.entryOf_eq_some keys).2 ⟨mem, key⟩, ?_⟩
    rw [State.leavesAtOpen_own (congrArg TileKey.owner key)] at leaves
    simpa using leaves
  · rintro ⟨e, found, releasing⟩
    obtain ⟨mem, key⟩ := (State.entryOf_eq_some keys).1 found
    exact ⟨e, List.mem_filter.2 ⟨mem, by rw [State.leavesAtOpen_own (congrArg TileKey.owner key), releasing]; rfl⟩, key⟩

/-- R15, R24, R25: a slot, its own entry and its cells behind a close. -/
theorem slotFits.passed {st : SlotState} {e : Option EntryState} {c r : Prop} (mark : Bool) (h : slotFits st e c r) :
    slotFits (passedState mark (e == some .releasing) st) (openedEntry e) c r := by
  obtain ⟨agrees, claim, release⟩ := h
  have idle (st' : SlotState) (entryless : st'.entryless = true) (old : st.entryless = true) (nc : ¬ c) (nr : ¬ r) :
      slotFits st' (openedEntry e) c r := by
    rw [slotAgrees_entryless old] at agrees
    rw [show e = none by simpa using agrees]
    exact slotFits.bare (slotAgrees_entryless entryless) nc nr
  cases st with
  | off => exact idle _ rfl rfl (fun is => by cases claim is) fun is => by cases (release is).1
  | wanted => exact idle _ rfl rfl (fun is => by cases claim is) fun is => by cases (release is).1
  | waiting why => exact idle _ (by cases mark <;> rfl) rfl (fun is => by cases claim is) fun is => by cases (release is).1
  | proposed =>
    rw [slotAgrees_entryless rfl] at agrees
    rw [show e = none by simpa using agrees]
    exact ⟨rfl, fun _ => rfl, fun is => by cases (release is).1⟩
  | active =>
    refine slotFits.bare ?_ (fun is => by cases claim is) fun is => by cases (release is).1
    rcases e with _ | _ | _ | _ <;> simp_all [slotAgrees, passedState, openedEntry]
  | dropping =>
    refine ⟨?_, fun is => (by cases claim is), fun is => ?_⟩
    · rcases e with _ | _ | _ | _ <;> simp_all [slotAgrees, passedState, openedEntry]
    · have entry := (release is).2
      rcases e with _ | _ | _ | _ <;> simp_all [passedState, openedEntry]

theorem State.PlanLaws.openTable (h : s.PlanLaws) : s.openTable.PlanLaws := by
  unfold State.openTable
  simp only []
  refine State.PlanLaws.serveClaims (State.PlanLaws.serveReleases (State.PlanLaws.congr (s := State.forSlots _ _) ?_
    (fun _ => rfl) rfl rfl (queued_of_eq rfl)))
  rw [State.slotPasses_eq]
  refine State.PlanLaws.planEdit (State.openedTable_keys h.keys) fun n => ?_
  have gone : ((s.claims.table.filter s.leavesAtOpen).any fun e => e.key == s.ownKey n) =
    (s.entryState n == some .releasing) :=
    State.left_any h.keys n
  have entry := State.openedTable_entryState h.keys n
  have fits := (h.fits n).passed (s.claims.removalMark || !(s.claims.table.filter s.leavesAtOpen).isEmpty)
  rw [← entry, ← gone] at fits
  exact fits.fewer (fun is => is.resolve_right (by simp)) fun is => is.resolve_right (by simp)

theorem State.PlanLaws.count (f : Counters → Counters) (h : s.PlanLaws) : (s.count f).PlanLaws :=
  h.congr (fun _ => rfl) rfl rfl (queued_of_eq rfl)

theorem State.PlanLaws.setState (st : StationState) (h : s.PlanLaws) : (s.setState st).PlanLaws :=
  h.congr (fun _ => rfl) rfl rfl (queued_of_eq rfl)

theorem State.PlanLaws.withdraw (p : QueueKind → Bool) (h : s.PlanLaws) : (s.withdraw p).PlanLaws :=
  h.congr (fun _ => rfl) rfl rfl (queued_of_sublist List.filter_sublist)

theorem State.PlanLaws.openFrame (h : s.PlanLaws) : s.openFrame.PlanLaws := by
  unfold State.openFrame
  exact State.PlanLaws.withdraw _ (State.PlanLaws.congr (s := s) h (fun _ => rfl) rfl rfl (queued_of_eq rfl))

theorem State.PlanLaws.scheduleHello (h : s.PlanLaws) : s.scheduleHello.PlanLaws := by
  unfold State.scheduleHello
  split
  · exact (h.enqueue (by simp) (by simp)).serveClaims
  · exact h

theorem State.PlanLaws.closeFrame (c : CloseCause) (h : s.PlanLaws) : (s.closeFrame c).PlanLaws := by
  have scheduled : s.openPlan.PlanLaws := h.openTable.openFrame.scheduleHello
  have claims : (s.closeFrame c).claims = s.openPlan.claims := by
    rw [s.closeFrame_eq]; simp [State.armContexts]
  refine scheduled.congr (fun n => ?_) ?_ ?_ (queued_of_eq ?_)
  · rw [State.slotAt, claims]; rfl
  · rw [claims]
  · rw [s.closeFrame_eq]; simp [State.armContexts]
  · rw [s.closeFrame_eq]; simp [State.armContexts]

/-- R39: a completed tile closes the frame or leaves the plan alone. -/
theorem State.PlanLaws.completeTile (k : TileKey) (h : s.PlanLaws) : (s.completeTile k).PlanLaws := by
  have taken : State.PlanLaws { s with frame := { s.frame with
      outstanding := s.frame.outstanding.filter fun x => !(x == k) } } := h.congr (fun _ => rfl) rfl rfl (queued_of_eq rfl)
  rcases s.completeTile_cases k with ⟨-, is⟩ | ⟨-, ⟨-, is⟩ | ⟨-, is⟩⟩ <;> rw [is]
  · exact h
  · exact taken
  · exact taken.closeFrame .last

/-! ### BYE (R13) -/

theorem byeEntries_keys (l : List Entry) (i : Station) (h : (l.map Entry.key).Nodup) :
    ((byeEntries l i).map Entry.key).Nodup := by
  have same : (byeEntries l i).map Entry.key = (l.filter fun e => !byeRemoves i e).map Entry.key := by
    rw [byeEntries, List.map_map]
    refine List.map_congr_left fun e _ => ?_
    simp only [Function.comp]
    split <;> rfl
  rw [same]
  exact h.sublist (List.filter_sublist.map _)

/-- R13: a BYE leaves the entries of another owner alone. -/
theorem byeEntries_find (l : List Entry) {i : Station} {k : TileKey} (other : i ≠ k.owner) :
    ((byeEntries l i).find? fun e => e.key == k).map Entry.state = (l.find? fun e => e.key == k).map Entry.state := by
  have keys (e : Entry) : ((if e.owner == i then { e with state := .releasing } else e).key == k) = (e.key == k) := by
    split <;> rfl
  rw [byeEntries, List.find?_map, Function.comp_def]
  simp only [keys]
  rw [find?_filter_of_kept fun e _ is => ?_, Option.map_map]
  · refine find?_key_map fun e is => ?_
    have owner : e.owner ≠ i := fun eq => other (by rw [← is, ← eq]; rfl)
    simp [owner]
  · have key : e.key = k := by simpa using is
    have owner : e.owner ≠ i := fun eq => other (by rw [← key, ← eq]; rfl)
    simp [byeRemoves, owner]

theorem State.PlanLaws.byeEffect {i : Station} {u : State} (own : Bool) (h : s.PlanLaws) (other : i ≠ s.own)
    (is : u = s.byeEffect i own ∨ (s.byeEffect i own).frame.outstanding = [] ∧ u = (s.byeEffect i own).closeFrame .bye) :
    u.PlanLaws := by
  have table : (s.byeEffect i own).claims.table = byeEntries s.claims.table i := by
    rw [(s.byeEffect_frames i own).1]; rfl
  have effect : (s.byeEffect i own).PlanLaws := by
    refine h.table (by rw [table]; exact byeEntries_keys _ _ h.keys) (fun n => ?_) (fun n => ?_) (queued_of_eq (by simp))
    · rw [State.entryState, State.ownEntry, State.entryOf, table, State.ownKey, State.own_congr (s := s) (by simp)]
      exact byeEntries_find _ other
    · rw [State.slotAt, (s.byeEffect_frames i own).1]; rfl
  rcases is with rfl | ⟨-, rfl⟩
  · exact effect
  · exact effect.closeFrame .bye

/-! ### The entry into SUSPECT, installs, and entries into MEMBER -/

theorem planFree_of_recovery {q : List QueuedCell} (kinds : kindsIn onlyRecovery q) : planFree q := by
  intro c mem
  rcases kinds c mem with is | is <;> simp [is, QueueKind.isPlan]

theorem planFree.not_claim (free : planFree s.queue) (n : SlotNo) : ¬ s.holds (.claim n) := by
  rintro ⟨c, mem, is⟩
  simpa [is, QueueKind.isPlan] using free c mem

theorem planFree.not_release (free : planFree s.queue) (n : SlotNo) : ¬ s.holds (.release n) := by
  rintro ⟨c, mem, is⟩
  simpa [is, QueueKind.isPlan] using free c mem

/-- R84, R26: PROPOSED slots are WANTED again, and no cell of the plan is queued. -/
theorem State.PlanLaws.enterSuspect (why : StateCause) (h : s.PlanLaws)
    (kinds : kindsIn onlyRecovery (s.enterSuspect why).queue) :
    (s.enterSuspect why).PlanLaws := by
  have free := planFree_of_recovery kinds
  have entry := suspectEntry s why
  refine ⟨by simpa using h.keys, fun n => ?_⟩
  refine slotFits.bare ?_ (free.not_claim n) (free.not_release n)
  have slot : (s.enterSuspect why).slotAt n =
      if (s.slotAt n).state = .proposed then { s.slotAt n with state := .wanted, offAfter := false } else s.slotAt n := by
    rw [entry]
    exact tab4_get _ n
  have agrees := (h.fits n).agrees
  rw [slot, State.entryState_congr (s := s) (by simp) (by simp)]
  split
  · next proposed =>
    rw [proposed, slotAgrees_entryless rfl] at agrees
    rw [slotAgrees_entryless rfl]
    exact agrees
  · exact agrees

theorem slotAgrees_rederived (e : Option EntryState) (sl : Slot) : slotAgrees (rederived e sl).state e = true := by
  simp only [rederived]
  rcases e with _ | _ | _ | _
  · cases sl.state <;> rfl
  · cases sl.state <;> simp only [installedSlot, slotAgrees] <;> cases sl.startOn <;> rfl
  · cases sl.state <;> simp only [installedSlot, slotAgrees] <;> cases sl.startOn <;> rfl
  · rfl

theorem State.dumpTable_keys (s : State) (d : DumpBody) : (s.dumpTable d).map Entry.key = d.entries.map Entry.key := by
  rw [State.dumpTable, List.map_map]
  refine List.map_congr_left fun e _ => ?_
  simp only [Function.comp]
  split <;> rfl

/-- R93 to R95: the station with a DUMP's plan and capture side installed and its slots rederived, the QUERY, and at a
reinstall the plan's cells, withdrawn. -/
def State.reinstalled (s : State) (hd : Header) (d : DumpBody) : State :=
  ((s.installPlan hd d).installLocal.forSlots State.rederiveSlot).withdraw fun k => k == .query || (s.isMember && k.isPlan)

theorem State.install_eq (s : State) (hd : Header) (d : DumpBody) :
    s.install hd d = State.count (State.deposit (if s.isMember then ((s.reinstalled hd d).setState .member).memberCells
      else (((s.reinstalled hd d).setState .member).memberCells).deposit (.state .member .install)) (.recovery .installed))
      fun c => { c with dumpsInstalled := satAdd c.dumpsInstalled 1 } := rfl

/-- The slots are rederived from the plan just installed. -/
theorem State.reinstalled_eq (s : State) (hd : Header) (d : DumpBody) (u : State)
    (is : u = (s.installPlan hd d).installLocal) :
    s.reinstalled hd d = (u.forSlots State.rederiveSlot).withdraw fun k => k == .query || (s.isMember && k.isPlan) := by
  rw [is]; rfl

/-- R70, R95: what is left of the queue at an install holds no cell of the plan. -/
theorem State.reinstalled_planFree (hd : Header) (d : DumpBody) (idle : unmarked s.queue)
    (kinds : s.isMember = false → planFree s.queue) : planFree (s.reinstalled hd d).queue := by
  intro c mem
  rw [s.reinstalled_eq hd d _ rfl, State.mem_withdraw, State.rederiveSlots_eq] at mem
  obtain ⟨old, kept⟩ := mem
  have old : c ∈ s.queue := by simpa [State.installPlan] using old
  rcases kept with other | marked
  · cases member : s.isMember
    · exact kinds member c old
    · simp only [member, Bool.true_and, Bool.or_eq_false_iff] at other
      exact other.2
  · rw [idle c old] at marked; cases marked

/-- R95: the slots rederived from a DUMP's entries agree with them. -/
theorem State.PlanLaws.reinstalled (hd : Header) {d : DumpBody} (distinct : (d.entries.map Entry.key).Nodup)
    (idle : unmarked s.queue)
    (kinds : s.isMember = false → planFree s.queue) : (s.reinstalled hd d).PlanLaws := by
  have free := State.reinstalled_planFree hd d idle kinds
  obtain ⟨u, u_is⟩ : ∃ u, u = (s.installPlan hd d).installLocal := ⟨_, rfl⟩
  have table : u.claims.table = s.dumpTable d := by rw [u_is]; simp [State.installPlan]
  refine ⟨?_, fun n => slotFits.bare ?_ (free.not_claim n) (free.not_release n)⟩
  · rw [s.reinstalled_eq hd d u u_is, State.rederiveSlots_eq, State.withdraw_claims,
      (State.planEdit_frames u _ _ _).1, table,
      State.dumpTable_keys]
    exact distinct
  · have slot : ((s.reinstalled hd d).slotAt n).state = (Machine.rederived (u.entryState n) (u.slotAt n)).state := by
      rw [s.reinstalled_eq hd d u u_is, State.slotAt, State.withdraw_claims, State.rederiveSlots_eq]
      exact congrArg Slot.state (State.planEdit_slotAt u _ _ _ n)
    have entry : (s.reinstalled hd d).entryState n = u.entryState n := by
      rw [s.reinstalled_eq hd d u u_is, State.rederiveSlots_eq]
      exact State.entryState_congr (by simp) (by simp) n
    rw [slot, entry]
    exact slotAgrees_rederived _ _

/-- R95, R96: an install leaves the slots with the table, and every CLAIM and RELEASE queued with its slot. -/
theorem State.PlanLaws.install (hd : Header) {d : DumpBody} (distinct : (d.entries.map Entry.key).Nodup)
    (idle : unmarked s.queue)
    (kinds : s.isMember = false → planFree s.queue) : (s.install hd d).PlanLaws := by
  have entered : (((s.reinstalled hd d).setState .member).memberCells).PlanLaws :=
    ((State.PlanLaws.reinstalled hd distinct idle kinds).setState _).memberCells
  rw [State.install_eq]
  split
  · exact (entered.deposit _).count _
  · exact ((entered.deposit _).deposit _).count _

/-- R1, R17: a station without a plan agrees, with no cell of the plan queued. -/
theorem State.PlanAbsent.planLaws (h : s.PlanAbsent) (free : planFree s.queue) : s.PlanLaws where
  keys := by rw [h.table]; exact List.nodup_nil
  fits n := by
    refine slotFits.bare ?_ (free.not_claim n) (free.not_release n)
    have none : s.entryState n = none := by
      rw [State.entryState, State.ownEntry, State.entryOf, h.table]; rfl
    rw [none]
    rcases h.slots n with is | is <;> rw [is] <;> rfl

end SlotLaws

end Sys2Proof.Machine
end

section
set_option Elab.async false
/-! O56 settled: the slots' laws through the units, the end of a cell and the other commands (R4, R20, R25, R26). -/

namespace Sys2Proof.Machine

section SlotRules

variable {s t : State} {hd : Header} {p : Option (List Byte)} {own : Option Flight}

/-! ### The laws by station state -/

theorem State.SlotLaws.of_inPlan (inPlan : t.membership.state.inPlan = true) (h : t.PlanLaws) : t.SlotLaws :=
  ⟨fun _ => h, fun out => by rw [inPlan] at out; cases out⟩

theorem State.SlotLaws.of_absent (out : t.membership.state.inPlan = false) (h : t.PlanAbsent) : t.SlotLaws :=
  ⟨fun inPlan => (by rw [out] at inPlan; cases inPlan), fun _ _ => h⟩

theorem State.SlotLaws.of_muted (muted : t.isMuted = true) : t.SlotLaws := by
  refine ⟨fun inPlan => ?_, fun _ unmuted => by rw [muted] at unmuted; cases unmuted⟩
  rcases inPlan_iff.1 inPlan with is | is <;> simp [State.isMuted, is] at muted

theorem State.PlanAbsent.congr (h : s.PlanAbsent) (table : t.claims.table = s.claims.table)
    (slots : ∀ n, (t.slotAt n).state = (s.slotAt n).state) : t.PlanAbsent :=
  ⟨table.trans h.table, fun n => by rw [slots]; exact h.slots n⟩

theorem State.PlanAbsent.setSlot {n : SlotNo} {sl : Slot} (h : s.PlanAbsent) (is : sl.state = .off ∨ sl.state = .wanted) :
    (s.setSlot n sl).PlanAbsent := by
  refine ⟨h.table, fun m => ?_⟩
  rw [State.setSlot_slotAt]
  split
  · exact is
  · exact h.slots m

theorem State.PlanAbsent.deposit (x : Notice) (h : s.PlanAbsent) : (s.deposit x).PlanAbsent :=
  h.congr (by simp) fun n => by rw [State.slotAt, State.deposit_claims, State.slotAt]

theorem State.SlotLaws.congr (h : s.SlotLaws) (state : t.membership.state = s.membership.state)
    (slots : ∀ n, (t.slotAt n).state = (s.slotAt n).state) (table : t.claims.table = s.claims.table)
    (words : t.strap.words = s.strap.words) (queue : ∀ c ∈ t.queue, ∃ d ∈ s.queue, d.kind = c.kind) : t.SlotLaws where
  inPlan inPlan := (h.inPlan (state ▸ inPlan)).congr slots table words queue
  absent out unmuted := (h.absent (state ▸ out) (State.isMuted_congr state ▸ unmuted)).congr table slots

theorem State.slotAt_congr (claims : t.claims = s.claims) (n : SlotNo) : (t.slotAt n).state = (s.slotAt n).state := by
  rw [State.slotAt, claims, State.slotAt]

/-- What only a MEMBER's slots undergo, an edit of the plan keeps. -/
theorem State.SlotLaws.serveClaims (h : s.SlotLaws) : s.serveClaims.SlotLaws := by
  refine ⟨fun inPlan => (h.inPlan (by simpa using inPlan)).serveClaims, fun out unmuted => ?_⟩
  have out : s.membership.state.inPlan = false := by simpa using out
  refine (h.absent out ((State.isMuted_congr (by simp)).symm.trans unmuted)).congr (by simp) fun n => ?_
  have notMember : s.isMember = false := by
    cases member : s.isMember
    · rfl
    · rw [isMember_iff.1 member] at out; cases out
  rw [State.serveClaims_eq, State.planEdit_slotAt, if_neg (by simp [State.serves, notMember])]

/-! ### The units -/

theorem OwnFits.congr (h : OwnFits hd p own s) (words : t.strap.words = s.strap.words)
    (slots : ∀ n, (t.slotAt n).state = (s.slotAt n).state) (table : t.claims.table = s.claims.table)
    (queue : ∀ c ∈ t.queue, ∃ d ∈ s.queue, d.kind = c.kind) : OwnFits hd p own t where
  peer none := by rw [State.own_congr words]; exact h.peer none
  sent is k cell := by
    obtain ⟨sender, agrees, gone⟩ := h.sent is k cell
    refine ⟨by rw [State.own_congr words]; exact sender, ?_, fun held => gone (State.holds_congr_of_sub queue held)⟩
    cases k with
    | claim n => simpa [State.cellAgrees, slots] using agrees
    | release n =>
      rw [State.cellAgrees_release, slots, State.entryState_congr table words, ← State.cellAgrees_release]
      exact agrees
    | _ => rfl

theorem sentCell_cases {k : QueueKind} (is : sentCell hd p = some k) : (∃ n, k = .claim n) ∨ ∃ n, k = .release n := by
  unfold sentCell at is
  split at is
  · exact .inl ⟨_, (Option.some.inj is).symm⟩
  · exact .inr ⟨_, (Option.some.inj is).symm⟩
  · cases is

theorem State.holds_serveClaims {k : QueueKind} (held : s.serveClaims.holds k) :
    s.holds k ∨ ∃ n, k = .claim n ∧ (s.slotAt n).state = .wanted := by
  obtain ⟨c, mem, rfl⟩ := held
  rw [State.serveClaims_eq, (State.planEdit_frames s _ _ _).2.2.2.2.2.2.2.2.2.2.2.2.2.1] at mem
  rcases List.mem_append.1 mem with mem | mem
  · exact .inl ⟨c, mem, rfl⟩
  · obtain ⟨k, claims, rfl⟩ := List.mem_map.1 mem
    obtain ⟨n, served, rfl⟩ := List.mem_map.1 claims
    have serves := (List.mem_filter.1 served).2
    simp only [State.serves, Bool.and_eq_true, beq_iff_eq] at serves
    exact .inr ⟨n, rfl, serves.1.1.1⟩

/-- R20: serving the WANTED slots leaves the slot of the own cell as it was sent for. -/
theorem OwnFits.serveClaims (h : OwnFits hd p own s) : OwnFits hd p own s.serveClaims where
  peer none := by rw [State.own_congr (s := s) (by simp)]; exact h.peer none
  sent is k cell := by
    obtain ⟨sender, agrees, gone⟩ := h.sent is k cell
    have slot {n : SlotNo} (other : (s.slotAt n).state ≠ .wanted) : s.serveClaims.slotAt n = s.slotAt n := by
      rw [State.serveClaims_eq, State.planEdit_slotAt, if_neg (by simp [State.serves, other])]
    refine ⟨by rw [State.own_congr (s := s) (by simp)]; exact sender, ?_, fun held => ?_⟩
    · rcases sentCell_cases cell with ⟨n, rfl⟩ | ⟨n, rfl⟩
      · have proposed : (s.slotAt n).state = .proposed := by simpa [State.cellAgrees] using agrees
        simp [State.cellAgrees, slot, proposed]
      · rw [State.cellAgrees_release] at agrees ⊢
        rw [slot (by simp [agrees.1]), State.entryState_congr (s := s) (by simp) (by simp)]
        exact agrees
    · rcases State.holds_serveClaims held with held | ⟨n, rfl, wanted⟩
      · exact gone held
      · simp [State.cellAgrees, wanted] at agrees

/-- What the slots' laws need of the station while a unit has the cell. -/
structure SlotCore (hd : Header) (p : Option (List Byte)) (own : Option Flight) (s : State) : Prop where
  laws : s.SlotLaws
  queue : s.QueueCore ∧ OwnSent hd own s
  fits : OwnFits hd p own s

/-- The laws hold through the units' rules, with a DUMP that holds no key twice. -/
theorem slotLaws_units (distinct : Kind.ofCode hd.kind = some .dump → ∀ bytes d, p = some bytes → dumpOf bytes = some d →
    (d.entries.map Entry.key).Nodup) : UnitRules hd p own (SlotCore hd p own) State.SlotLaws where
  leads s h := h.laws
  count s f h := ⟨h.laws.congr rfl (fun _ => rfl) rfl rfl (queued_of_eq rfl), (queueCore_units (p := p)).count s f h.queue,
    h.fits.congr rfl (fun _ => rfl) rfl (queued_of_eq rfl)⟩
  mutes s cause why _ _ _ := .of_muted (by simp [State.isMuted])
  hears s f listen h := .of_absent (by simp [StationState.inPlan])
    ((h.laws.absent (by rw [listen]; rfl) (by simp [State.isMuted, listen])).congr (by simp) (State.slotAt_congr (by simp)))
  records s f syncing h := ⟨h.laws.congr rfl (fun _ => rfl) rfl rfl (queued_of_eq rfl),
    (queueCore_units (p := p)).records s f syncing h.queue, h.fits.congr rfl (fun _ => rfl) rfl (queued_of_eq rfl)⟩
  queryTimer s _ _ h := h.laws.congr rfl (fun _ => rfl) rfl rfl (queued_of_eq rfl)
  installs s bytes d carries usable state h := by
    refine .of_inPlan (by simp [StationState.inPlan])
      (State.PlanLaws.install hd (distinct carries.1 bytes d carries.2 usable)
      h.queue.1.idle fun notMember => planFree_of_recovery (h.queue.1.kinds ?_))
    rcases state with syncing | inPlan
    · exact .inl syncing
    · refine .inr ((inPlan_iff.1 inPlan).resolve_left fun member => ?_)
      rw [isMember_iff.2 member] at notMember; cases notMember
  recording s t part inPlan h := by
    have queue := (queueCore_units (p := p)).recording s t part inPlan h.queue
    cases part with
    | served => exact ⟨h.laws.serveClaims, queue, h.fits.serveClaims⟩
    | _ => exact ⟨h.laws.congr (by simp) (State.slotAt_congr (by simp)) (by simp) (by simp) (queued_of_eq (by simp)), queue,
        h.fits.congr (by simp) (State.slotAt_congr (by simp)) (by simp) (queued_of_eq (by simp))⟩
  suspects s why peer h := by
    have queue := (queueCore_units (p := p)).suspects s why peer h.queue
    refine ⟨.of_inPlan (by simp [StationState.inPlan]) ?_, queue, ⟨fun none => ?_, fun sent => ?_⟩⟩
    · exact (h.laws.inPlan (by rw [peer.2]; rfl)).enterSuspect why (queue.1.kinds (.inr (by simp)))
    · rw [State.own_congr (s := s) (by simp)]; exact h.fits.peer none
    · rw [peer.1] at sent; cases sent
  tile s _ inPlan h := .of_inPlan (by simpa using inPlan) ((h.laws.inPlan inPlan).completeTile _)
  claim s bytes carries inPlan h :=
    .of_inPlan (by simpa using inPlan) ((h.laws.inPlan inPlan).applyClaim carries.1 (carries.2 ▸ h.fits))
  release s bytes carries inPlan h :=
    .of_inPlan (by simpa using inPlan) ((h.laws.inPlan inPlan).applyRelease carries.1 (carries.2 ▸ h.fits))
  bye s _ inPlan h := by
    obtain ⟨u, closes, is⟩ := s.applyBye_cases hd.sender own.isSome
    rw [is]
    split
    · refine .of_absent (by simp [StationState.inPlan]) ⟨by simp [State.enterLeft, State.clearPlan, State.setState],
        fun n => .inl ?_⟩
      simp only [State.enterLeft, State.slotAt, State.deposit_claims, State.setState, State.clearPlan]
      exact congrArg Slot.state (tab4_get _ n)
    · next peer =>
      have none : own = none := by simpa using peer
      have state : u.membership.state = s.membership.state := by rcases closes with rfl | ⟨-, rfl⟩ <;> simp
      exact .of_inPlan (by rw [state]; exact inPlan) ((h.laws.inPlan inPlan).byeEffect _ (h.fits.peer none) closes)
  close s _ inPlan h := .of_inPlan (by simpa using inPlan) ((h.laws.inPlan inPlan).closeFrame _)
  asked s _ member h := by
    have inPlan : s.membership.state.inPlan = true := by rw [member]; rfl
    refine .of_inPlan (by simpa using inPlan) ?_
    unfold State.answerQuery
    refine State.PlanLaws.enqueue (k := .dump) ?_ (by simp) (by simp)
    exact State.PlanLaws.congr (s := s) (h.laws.inPlan inPlan) (fun _ => rfl) rfl rfl (queued_of_eq rfl)
  served s d dump member h := by
    have sub : (s.requestersServed d).queue.Sublist s.queue := by
      unfold State.requestersServed
      simp only []
      split
      · exact List.filter_sublist
      · exact .refl _
    exact ⟨h.laws.congr (by simp) (State.slotAt_congr (by simp)) (by simp) (by simp) (queued_of_sublist sub),
      (queueCore_units (p := p)).served s d dump member h.queue,
      h.fits.congr (by simp) (State.slotAt_congr (by simp)) (by simp) (queued_of_sublist sub)⟩

/-! ### The end of a cell -/

/-- R4: a DUMP in this cell holds no key twice. -/
def Cell.dumpDistinct (c : Cell) : Prop :=
  Kind.ofCode c.header.kind = some .dump → ∀ d, dumpOf c.payload = some d → (d.entries.map Entry.key).Nodup

theorem Cell.dumpDistinct_iff {c : Cell} : c.dumpDistinct ↔
    (Kind.ofCode c.header.kind != some .dump || (dumpOf c.payload).all fun d => (d.entries.map Entry.key).Nodup) = true := by
  unfold Cell.dumpDistinct
  by_cases dump : Kind.ofCode c.header.kind = some .dump
  · cases dumpOf c.payload <;> simp [dump]
  · simp [dump]

theorem State.dumpsHoldDistinctKeys_pending {levels : List Bool} {rest : List Instr} {c : Cell}
    (h : s.dumpsHoldDistinctKeys = true) (front : s.pending = .cellEnd levels :: rest)
    (heard : (judgeLevels levels).cls = .heard c) : c.dumpDistinct := by
  simp only [State.dumpsHoldDistinctKeys, front, heard, Bool.and_eq_true] at h
  exact Cell.dumpDistinct_iff.2 h.1

theorem State.dumpsHoldDistinctKeys_flight {f : Flight} (h : s.dumpsHoldDistinctKeys = true)
    (flight : s.link.flight = some f) :
    f.cell.dumpDistinct := by
  simp only [State.dumpsHoldDistinctKeys, flight, Bool.and_eq_true, Option.all_some] at h
  exact Cell.dumpDistinct_iff.2 h.2

/-- Another station's cell. -/
theorem State.SlotLaws.handOver_peer (c : CellClass) (distinct : ∀ cell, c = .heard cell → cell.dumpDistinct)
    (h : s.SlotLaws)
    (core : s.QueueCore) : (s.handOver c none).SlotLaws := by
  have unit (hd : Header) (p : Option (List Byte)) (other : hd.sender ≠ s.own)
      (known : Kind.ofCode hd.kind = some .dump → ∀ bytes d, p = some bytes → dumpOf bytes = some d →
        (d.entries.map Entry.key).Nodup) : (s.units hd p none).SlotLaws :=
    (slotLaws_units known).units ⟨h, ⟨core, .of_peer rfl⟩, ⟨fun _ => other, fun sent => by cases sent⟩⟩
  have good (hd : Header) (p : Option (List Byte))
      (known : Kind.ofCode hd.kind = some .dump → ∀ bytes d, p = some bytes → dumpOf bytes = some d →
        (d.entries.map Entry.key).Nodup) : (s.units hd p none).SlotLaws := by
    by_cases same : hd.sender = s.own
    · rcases units_duplicate p same with is | ⟨-, -, is⟩ <;> rw [is]
      · exact h
      · exact .of_muted (by simp [State.isMuted])
    · exact unit hd p same known
  cases c with
  | heard cell => exact good _ _ fun dump bytes d is usable => distinct cell rfl dump d (by cases is; exact usable)
  | headerHeard hd => exact good _ _ fun _ _ _ is => by cases is
  | damaged => exact h

/-- R112, R164: the own cell heard has left the queue; the rest stands. -/
theorem State.SlotLaws.afterOwn (f : Flight) (h : s.SlotLaws) : (s.afterOwn f).SlotLaws :=
  h.congr (by simp) (State.slotAt_congr (by simp)) (by simp) (by simp) (queued_of_sublist (f.queue_sublist s))

theorem Fin.ofNat_val {n : SlotNo} {x : Nat} (is : x = n.val) : (Fin.ofNat 4 x : SlotNo) = n := by
  subst is
  exact Fin.ext (Nat.mod_eq_of_lt n.isLt)

/-- R20, R25, R111: the own CLAIM or RELEASE is for the slot it names, which stands as it was sent for. -/
theorem State.Flying.ownFits {f : Flight} (h : s.Flying f) (places : onePerPlace s.queue) (names : f.namesItsSlot = true)
    (kinds : s.recovering → kindsIn onlyRecovery s.queue) (laws : s.SlotLaws) :
    OwnFits f.cell.header (some f.cell.payload) (some f) (s.afterOwn f) := by
  refine ⟨fun none => (by cases none), fun _ k cell => ?_⟩
  have source_of (kind : Kind) (is : Kind.ofCode f.cell.header.kind = some kind) (control : kind ≠ .tile) :
      ∃ q, f.source = .queue q ∧ q.kind = kind := h.source_of_kind is control
  have own : f.source = .queue k := by
    unfold sentCell at cell
    split at cell
    · next p bytes claim is =>
      cases is
      obtain ⟨q, source, kind⟩ := source_of _ claim (by simp)
      cases q <;> cases kind
      next n =>
      simp only [Flight.namesItsSlot, source, beq_iff_eq] at names
      rw [← Option.some.inj cell, Fin.ofNat_val names, source]
    · next p bytes release is =>
      cases is
      obtain ⟨q, source, kind⟩ := source_of _ release (by simp)
      cases q <;> cases kind
      next n =>
      simp only [Flight.namesItsSlot, source, beq_iff_eq] at names
      rw [← Option.some.inj cell, Fin.ofNat_val names, source]
    · cases cell
  obtain ⟨c, mem, kind⟩ := h.queued own
  have inPlan : s.membership.state.inPlan = true := by
    by_contra out
    have recovering : s.recovering := by
      have sends := h.sends
      unfold State.recovering
      revert out sends
      cases s.membership.state <;> simp [StationState.inPlan, StationState.silent]
    rcases kinds recovering c mem with is | is <;> rcases sentCell_cases cell with ⟨n, rfl⟩ | ⟨n,
      rfl⟩ <;> rw [is] at kind <;> cases kind
  refine ⟨?_, ?_, ?_⟩
  · rw [((State.marksAgree_queue own).1 h.marks).2.1]
    exact (State.own_congr (by simp)).symm
  · have agrees := (State.planLaws_iff.1 (laws.inPlan inPlan)).2.2 c mem
    rw [kind] at agrees
    rcases sentCell_cases cell with ⟨n, rfl⟩ | ⟨n, rfl⟩
    · simpa [State.cellAgrees, State.slotAt_congr (s := s) (t := s.afterOwn f) (by simp)] using agrees
    · rw [State.cellAgrees_release] at agrees ⊢
      rwa [State.slotAt_congr (s := s) (by simp), State.entryState_congr (s := s) (by simp) (by simp)]
  · rintro ⟨d, left, same⟩
    rw [State.afterOwn_queue own, places.eraseP_kind] at left
    simpa [same] using (List.mem_filter.1 left).2

theorem State.slotLaws_lost (src : CellSource) (m : Bool) (h : s.SlotLaws)
    (queued : ∀ n, src = .queue (.claim n) → s.holds (.claim n)) : (s.ownCellAborted src m).SlotLaws := by
  have kinds (t : State) (is : t.queue = unmark s.queue) : ∀ c ∈ t.queue, ∃ d ∈ s.queue, d.kind = c.kind := by
    intro c mem
    rw [is] at mem
    obtain ⟨d, member, rfl⟩ := List.mem_map.1 mem
    exact ⟨d, member, rfl⟩
  have marks : (s.marksCleared m).queue = unmark s.queue := by cases m <;> rfl
  have cleared : (s.marksCleared m).SlotLaws :=
    h.congr (by simp) (State.slotAt_congr (by simp)) (by simp) (by simp) (kinds _ marks)
  rcases s.ownCellAborted_cases src m with ⟨-, is⟩ | ⟨-, -, is⟩ | ⟨-, n, claim, is⟩ | ⟨-, k, -, -, is⟩ <;> rw [is]
  · exact .of_muted (by simp [State.isMuted])
  · exact cleared
  · refine State.SlotLaws.serveClaims ?_
    unfold State.withdrawOffAfter
    split
    · have gone : ¬ ((s.marksCleared m).withdraw fun k => k == .claim n).holds (.claim n) := by
        rintro ⟨c, mem, kind⟩
        rw [State.mem_withdraw, marks] at mem
        rcases mem.2 with other | flying
        · simp [kind] at other
        · simp [unmarked_unmark s.queue c mem.1] at flying
      have sub : (((s.marksCleared m).withdraw fun k => k == .claim n)).queue.Sublist (s.marksCleared m).queue :=
        List.filter_sublist
      refine ⟨fun inPlan => ?_, fun out unmuted => ?_⟩
      · have inPlan : (s.marksCleared m).membership.state.inPlan = true := by simpa using inPlan
        have laws := (cleared.inPlan inPlan).withdraw fun k => k == .claim n
        have fits := laws.fits n
        have before : (s.slotAt n).state = .proposed := ((h.inPlan (by simpa using inPlan)).fits n).claim (queued n claim)
        have proposed : (((s.marksCleared m).withdraw fun k => k == .claim n).slotAt n).state = .proposed := by
          rw [← before]
          exact State.slotAt_congr (by simp) n
        refine (laws.setSlot (slotFits.bare ?_ gone (not_release_of_fits fits (by simp [proposed])))).deposit _
        have agrees := fits.agrees
        rw [proposed, slotAgrees_entryless rfl] at agrees
        rw [slotAgrees_entryless rfl]
        exact agrees
      · have absent := cleared.absent (by simpa using out) (by simpa [State.isMuted] using unmuted)
        exact State.PlanAbsent.deposit _ (State.PlanAbsent.setSlot (absent.congr rfl fun _ => rfl) (.inl rfl))
    · exact cleared
  · exact cleared.serveClaims

theorem State.slotLaws_cellEnds (j : Judged) (distinct : ∀ cell, j.cls = .heard cell → cell.dumpDistinct)
    (own_distinct : ∀ f, s.link.flight = some f → f.cell.dumpDistinct)
    (names : ∀ f, s.link.flight = some f → f.namesItsSlot = true) (silent : s.silentEmpty = true)
    (places : onePerPlace s.queue) (flight : s.flightLawful = true) (kinds : s.recovering → kindsIn onlyRecovery s.queue)
    (h : s.SlotLaws) : (s.cellEnds j).SlotLaws := by
  have settled (t : State) (h : t.SlotLaws) : t.settleAttempts.SlotLaws :=
    h.congr (by simp) (State.slotAt_congr (by simp)) (by simp) (by simp) (queued_of_eq (by simp))
  rcases s.cellEnds_cases j with is | ⟨-, -, is⟩ | ⟨-, -, is⟩ | ⟨listens, is⟩ | ⟨f, ends, is⟩ | ⟨f, -, idle,
    flies, -, is⟩ <;>
    rw [is]
  · exact h
  · exact h.congr rfl (fun _ => rfl) rfl rfl (queued_of_eq rfl)
  · exact h.congr rfl (fun _ => rfl) rfl rfl (queued_of_eq rfl)
  · refine settled _ (State.SlotLaws.handOver_peer _ distinct
      (h.congr (by simp) (State.slotAt_congr (by simp)) (by simp) (by simp) (queued_of_eq (by simp))) ?_)
    exact State.queueCore_of_lawful silent kinds (State.listening_afterLink j listens flight).quiet.queue (by simp) (by simp)
  · obtain ⟨-, idle, flies, -⟩ := State.ends_iff.1 ends
    have flying := State.flying_of_lawful flies flight
    refine settled _ ((slotLaws_units fun dump bytes d is usable => own_distinct f flies dump d
      (by cases is; exact usable)).units
      ⟨h.afterOwn f, ⟨?_, flying.ownSent kinds (by simp)⟩, flying.ownFits places (names f flies) kinds h⟩)
    exact State.queueCore_of_lawful silent kinds (State.listening_afterOwn ends places flight).quiet.queue
      (f.queue_sublist s)
      (by simp)
  · refine settled _ (State.slotLaws_lost _ _
      (h.congr (by simp) (State.slotAt_congr (by simp)) (by simp) (by simp) (queued_of_eq (by simp))) fun n source => ?_)
    obtain ⟨c, mem, kind⟩ := (State.flying_of_lawful flies flight).queued source
    exact ⟨c, by simpa using mem, kind⟩

end SlotRules

end Sys2Proof.Machine
end

section
set_option Elab.async false
/-! O56, the other commands, and the step (R20, R25 to R29, R59, R97, R98, R172, R181). -/

namespace Sys2Proof.Machine

section SlotEvents

variable {s t : State}

/-! ### SLOT-OFF, SLOT-ON (R27, R28) -/

/-- A slot without an entry, and without a cell, takes any state without an entry. -/
theorem State.PlanLaws.setSlot_entryless {n : SlotNo} {sl : Slot} (h : s.PlanLaws)
    (old : (s.slotAt n).state.entryless = true)
    (new : sl.state.entryless = true) (claim : ¬ s.holds (.claim n)) : (s.setSlot n sl).PlanLaws := by
  refine h.setSlot (slotFits.bare ?_ claim (not_release_of_fits (h.fits n) fun is => by rw [is] at old; cases old))
  have agrees := (h.fits n).agrees
  rw [slotAgrees_entryless old] at agrees
  rw [slotAgrees_entryless new]
  exact agrees

theorem State.not_holds_withdrawn {n : SlotNo} (idle : s.claimInFlight n = false) :
    ¬ (s.withdraw fun k => k == .claim n).holds (.claim n) := by
  rintro ⟨c, mem, kind⟩
  obtain ⟨mem, stays⟩ := (State.mem_withdraw s).1 mem
  rcases stays with other | flying
  · simp [kind] at other
  · simp only [State.claimInFlight, List.any_eq_false] at idle
    exact idle c mem (by simp [kind, flying])

theorem State.PlanLaws.settleAttempts (h : s.PlanLaws) : s.settleAttempts.PlanLaws :=
  h.congr (State.slotAt_congr (by simp)) (by simp) (by simp) (queued_of_eq (by simp))

theorem State.PlanLaws.slotOff (n : SlotNo) (h : s.PlanLaws) : (s.slotOff n).PlanLaws := by
  have fits := h.fits n
  have same {sl : Slot} (is : sl.state = (s.slotAt n).state) : (s.setSlot n sl).PlanLaws := h.setSlot (is ▸ fits)
  unfold State.slotOff
  simp only []
  split
  · exact same rfl
  · next wanted =>
    exact h.setSlot_entryless (by rw [wanted]; rfl) rfl (not_claim_of_fits fits (by simp [wanted]))
  · next why waits =>
    exact h.setSlot_entryless (by rw [waits]; rfl) rfl (not_claim_of_fits fits (by simp [waits]))
  · next proposed =>
    split
    · exact same rfl
    · next idle =>
      exact (State.PlanLaws.setSlot_entryless (s := s.withdraw fun k => k == .claim n) (h.withdraw _)
        (by rw [State.slotAt_congr (s := s) (by simp), proposed]; rfl) rfl
        (State.not_holds_withdrawn (by simpa using idle))).settleAttempts
  · next active =>
    have claim : ¬ s.holds (.claim n) := not_claim_of_fits fits (by simp [active])
    have agrees := fits.agrees
    rw [active] at agrees
    have entry : (s.entryState n).any (· != .releasing) = true := by
      simp only [slotAgrees, Bool.or_eq_true, beq_iff_eq] at agrees
      rcases agrees with is | is <;> rw [is] <;> rfl
    have dropping : slotAgrees .dropping (s.entryState n) = true := by
      simp only [slotAgrees, Bool.or_eq_true, beq_iff_eq] at agrees ⊢
      rcases agrees with is | is <;> rw [is] <;> rfl
    split
    · rw [State.setSlotState, State.setSlot_enqueue]
      refine h.change_slot (fun k mem => ?_) ⟨dropping, fun is => is.elim (absurd · claim) fun mem => ?_,
        fun _ => ⟨rfl, entry⟩⟩
      · split at mem
        · cases mem
        · exact .inr (List.mem_singleton.1 mem)
      · split at mem <;> simp at mem
    · exact h.setSlot ⟨dropping, fun is => absurd is claim, fun _ => ⟨rfl, entry⟩⟩
  · exact h

theorem State.PlanAbsent.slotOff (n : SlotNo) (h : s.PlanAbsent) : (s.slotOff n).PlanAbsent := by
  unfold State.slotOff
  simp only []
  rcases h.slots n with is | is <;> rw [is]
  · exact h.setSlot (.inl rfl)
  · exact h.setSlot (.inl rfl)

theorem State.PlanLaws.claimIfReady (n : SlotNo) (h : s.PlanLaws) : (s.claimIfReady n).PlanLaws := by
  rw [State.claimIfReady_eq]
  have fits := h.fits n
  refine h.change_slot (fun k mem => ?_) ?_
  · split at mem
    · exact .inl (List.mem_singleton.1 mem)
    · cases mem
  · by_cases serves : s.serves n = true
    · have wanted : (s.slotAt n).state = .wanted := by
        simp only [State.serves, Bool.and_eq_true, beq_iff_eq] at serves
        exact serves.1.1
      have agrees := fits.agrees
      rw [wanted, slotAgrees_entryless rfl] at agrees
      rw [if_pos serves]
      refine ⟨by rw [slotAgrees_entryless rfl]; exact agrees, fun _ => rfl, fun is => ?_⟩
      rcases is with is | mem
      · cases wanted.symm.trans (fits.release is).1
      · split at mem <;> simp at mem
    · simp only [serves, Bool.false_eq_true, if_false, Bool.false_and, List.not_mem_nil, or_false]
      exact fits

theorem State.PlanAbsent.claimIfReady (n : SlotNo) (h : s.PlanAbsent) (notMember : s.isMember = false) :
    (s.claimIfReady n).PlanAbsent := by
  have serves : s.serves n = false := by simp [State.serves, notMember]
  rw [State.claimIfReady_eq, serves]
  refine h.congr (by simp) fun m => ?_
  rw [State.planEdit_slotAt]
  split
  · next is => rw [is]; rfl
  · rfl

/-! ### The names on the link (R20, R25, R111) -/

/-- R111: the payload of a CLAIM or RELEASE on the link names its slot. -/
def State.linkNames (s : State) : Prop := ∀ f, s.link.flight = some f → f.namesItsSlot = true

theorem State.linkNames.congr (flight : t.link.flight = s.link.flight) (h : s.linkNames) : t.linkNames :=
  fun f is => h f (flight ▸ is)

theorem byte_toNat_slot (n : SlotNo) : (BitVec.ofNat 8 n.val).toNat = n.val := by
  rw [BitVec.toNat_ofNat]
  omega

theorem State.namesItsSlot_startControl (c : QueuedCell) (crop : Crop) :
    (Flight.namesItsSlot ⟨s.controlCell c.kind (s.sequenceFor c), .queue c.kind, crop, .none⟩) = true := by
  cases kind : c.kind with
  | claim n => exact beq_iff_eq.2 (byte_toNat_slot n)
  | release n => exact beq_iff_eq.2 (byte_toNat_slot n)
  | _ => rfl

theorem Event.linkNames (part : Event s t) (h : s.linkNames) : t.linkNames := by
  have reported (tx : Transmitter) (r : Report) : (s.report tx r).linkNames := by
    intro f is
    simp only [State.report, Option.map_eq_some_iff] at is
    obtain ⟨g, flight, rfl⟩ := is
    exact h g flight
  cases part with
  | reset => exact fun f is => by cases is
  | fails d strap =>
    rcases s.strapFailed_cases d with ⟨-, is⟩ | ⟨-, is⟩ <;> rw [is]
    · exact h
    · exact fun f is => by simp at is
  | mismatch => exact reported _ _
  | matched => exact reported _ _
  | control c =>
    intro f is
    obtain rfl := Option.some.inj is
    exact State.namesItsSlot_startControl c _
  | tile e =>
    intro f is
    obtain rfl := Option.some.inj is
    rfl
  | rejoin => exact h
  | markDone => exact h
  | _ => exact h.congr (by simp)

theorem State.linkNames_cellEnds (j : Judged) (places : onePerPlace s.queue) (flight : s.flightLawful = true)
    (h : s.linkNames) : (s.cellEnds j).linkNames :=
  CellRules.cellEnds (Q := State.Listening) {
    stays := h
    linkIdle := fun _ => h
    taken := fun _ => h
    heard := fun j listens => State.listening_afterLink j listens flight
    peers := fun c _ h => h.handOver c none
    own := fun _ ends => (State.listening_afterOwn ends places flight).handOver _ _
    lost := fun _ j flies idle => (State.flying_of_lawful flies flight).lost idle j
    settles := fun _ h f is => by simp [h.quiet.flight] at is } j

/-- Before MEMBER and SUSPECT only a QUERY or a BYE is on the link. -/
theorem State.linkNames_of_lawful (flight : s.flightLawful = true) (kinds : s.recovering → kindsIn onlyRecovery s.queue)
    (h : s.membership.state.inPlan = true → s.linkNames) : s.linkNames := by
  intro f flies
  have flying := State.flying_of_lawful flies flight
  by_cases inPlan : s.membership.state.inPlan = true
  · exact h inPlan f flies
  have recovering : s.recovering := by
    have sends := flying.sends
    unfold State.recovering
    revert inPlan sends
    cases s.membership.state <;> simp [StationState.inPlan, StationState.silent]
  cases source : f.source with
  | store => simp [Flight.namesItsSlot, source]
  | queue k =>
    obtain ⟨c, mem, rfl⟩ := flying.queued source
    rcases kinds recovering c mem with is | is <;> simp [Flight.namesItsSlot, source, is]

/-! ### The other commands -/

/-- What the other commands need of a station to keep the slots' laws. -/
structure SlotStep (s : State) : Prop where
  laws : s.SlotLaws
  silent : s.silentEmpty = true
  timers : s.timersLawful = true
  kinds : s.recovering → kindsIn onlyRecovery s.queue

theorem State.enterListen_slotAt (words : List Word) (n : SlotNo) : ((s.enterListen words).slotAt n).state = .off := by
  have claims : (s.enterListen words).claims =
      (State.forSlots { s with strap := { s.strap with words := words } } loadSlot).claims := by
    simp [State.enterListen, State.startSilence, State.setSilence, State.setState]
  rw [State.slotAt, claims, State.loadSlots_eq]
  exact congrArg Slot.state (State.planEdit_slotAt _ _ _ _ n)

theorem Event.slotLaws (part : Event s t) (h : SlotStep s) : t.SlotLaws := by
  have empty {st : StationState} (is : s.membership.state = st) (silent : st.silent = true) : s.queue = [] :=
    (State.silentEmpty_iff.1 h.silent (by rw [is]; exact silent)).queue
  have absent {st : StationState} (is : s.membership.state = st) (out : st.inPlan = false) (unmuted : s.isMuted = false) :
      s.PlanAbsent := h.laws.absent (by rw [is]; exact out) unmuted
  cases part with
  | reset => exact .of_absent rfl ⟨rfl, fun n => .inl (congrArg Slot.state (tab4_get _ n))⟩
  | loads words strap =>
    exact .of_absent (by simp [StationState.inPlan])
      ⟨by simpa using (absent strap rfl (by simp [State.isMuted, strap])).table,
      fun n => .inl (State.enterListen_slotAt words n)⟩
  | fails d strap =>
    rcases s.strapFailed_cases d with ⟨-, is⟩ | ⟨-, is⟩ <;> rw [is]
    · exact h.laws.congr rfl (fun _ => rfl) rfl rfl (queued_of_eq rfl)
    · exact .of_muted (by simp [State.isMuted])
  | control c =>
    refine h.laws.congr (by simp) (fun _ => rfl) rfl rfl fun d mem => ?_
    exact kindsIn_startControl (A := fun k => ∃ d ∈ s.queue, d.kind = k) c (fun d mem => ⟨d, mem, rfl⟩) d mem
  | founds listen =>
    have none := empty listen rfl
    refine .of_inPlan (by simp [StationState.inPlan]) (State.PlanLaws.memberCells (State.PlanLaws.deposit _ ?_))
    exact State.PlanAbsent.planLaws ((absent listen rfl (by simp [State.isMuted, listen])).congr rfl fun _ => rfl)
      (by rw [none]; exact fun _ mem => absurd mem List.not_mem_nil)
  | closeQueued member =>
    exact .of_inPlan (by simp [member, StationState.inPlan])
      ((h.laws.inPlan (by rw [member]; rfl)).enqueue (by simp) (by simp))
  | leave member =>
    exact .of_inPlan (by simp [member, StationState.inPlan])
      ((h.laws.inPlan (by rw [member]; rfl)).enqueue (by simp) (by simp))
  | queryRepeats running =>
    have recovering : s.recovering := (State.timersLawful_iff.1 h.timers).2.1 running
    rcases recovering with syncing | suspect
    · exact .of_absent (by simp [syncing, StationState.inPlan])
        ((absent syncing rfl (by simp [State.isMuted, syncing])).congr (by simp) (State.slotAt_congr (by simp)))
    · refine .of_inPlan (by simp [suspect, StationState.inPlan]) (State.PlanLaws.enqueue ?_ (by simp) (by simp))
      exact State.PlanLaws.congr (s := s) (h.laws.inPlan (by rw [suspect]; rfl)) (fun _ => rfl) rfl rfl (queued_of_eq rfl)
  | selfTrusts suspect =>
    refine .of_inPlan (by simp [StationState.inPlan]) ?_
    unfold State.selfTrust State.abandonNotices
    refine State.PlanLaws.count _ (State.PlanLaws.deposit _ (State.PlanLaws.deposit _ (State.PlanLaws.memberCells ?_)))
    exact State.PlanLaws.congr (s := s) (h.laws.inPlan (by rw [suspect]; rfl)) (fun _ => rfl) rfl rfl (queued_of_eq rfl)
  | fallsBack syncing =>
    refine .of_inPlan (by simp [StationState.inPlan]) ?_
    unfold State.syncingFallback State.abandonNotices
    refine State.PlanLaws.count _ (State.PlanLaws.deposit _ (State.PlanLaws.deposit _ (State.PlanLaws.memberCells ?_)))
    refine State.PlanAbsent.planLaws ⟨rfl, fun n => ?_⟩ (planFree_of_recovery (h.kinds (.inl syncing)))
    exact (absent syncing rfl (by simp [State.isMuted, syncing])).slots n
  | slotOff n =>
    exact ⟨fun inPlan => (h.laws.inPlan (by simpa using inPlan)).slotOff n, fun out unmuted =>
      (h.laws.absent (by simpa using out) (by simpa [State.isMuted] using unmuted)).slotOff n⟩
  | slotOn n _ _ off =>
    refine ⟨fun inPlan => ?_, fun out unmuted => ?_⟩
    · have laws := h.laws.inPlan (by simpa using inPlan)
      exact (laws.setSlot_entryless (by rw [off]; rfl) rfl (not_claim_of_fits (laws.fits n) (by simp [off]))).claimIfReady n
    · have plan := h.laws.absent (by simpa using out) (by simpa [State.isMuted] using unmuted)
      have out : s.membership.state.inPlan = false := by simpa using out
      refine (plan.setSlot (.inr rfl)).claimIfReady n ?_
      cases member : s.isMember
      · exact member
      · rw [isMember_iff.1 member] at out; cases out
  | slotSet n sl off stays =>
    refine h.laws.congr rfl (fun m => ?_) rfl rfl (queued_of_eq rfl)
    rw [State.setSlot_slotAt]
    split
    · next is => rw [is, off, stays]
    · rfl
  | rejoin left => exact .of_absent rfl ⟨rfl, fun n => .inl (congrArg Slot.state (tab4_get _ n))⟩
  | mismatch => exact h.laws.congr rfl (fun _ => rfl) rfl rfl (queued_of_eq rfl)
  | matched => exact h.laws.congr rfl (fun _ => rfl) rfl rfl (queued_of_eq rfl)
  | _ => exact h.laws.congr (by simp) (State.slotAt_congr (by simp)) (by simp) (by simp) (queued_of_eq (by simp))

theorem Event.slotStep (part : Event s t) (h : SlotStep s) : SlotStep t :=
  ⟨part.slotLaws h, part.silentEmpty h.timers h.silent, part.timersLawful h.timers, part.kinds h.kinds⟩

/-- Settles O56: each rule changes an own entry, its slot and its slot's queued cell together; a CLAIM or RELEASE on the
link names the slot that its queued cell is for, and a DUMP that is heard holds no key twice. -/
theorem everyStepKeepsTheSlotsLawful : Obligations.EveryStepKeepsTheSlotsLawful := by
  unfold Obligations.EveryStepKeepsTheSlotsLawful
  intro s t timers silent places flight suspectQueue distinct slots next
  have places : onePerPlace s.queue := State.queuePlaces_iff.1 places
  have kinds := State.suspectQueue_iff.1 suspectQueue
  obtain ⟨laws, names⟩ := State.slotsLawful_iff.1 slots
  have linkNames : s.linkNames := State.linkNames_of_lawful flight kinds names
  refine State.slotsLawful_iff.2 ?_
  have popped (rest : List Instr) : SlotStep { s with pending := rest } :=
    ⟨laws.congr rfl (fun _ => rfl) rfl rfl (queued_of_eq rfl), silent, timers, kinds⟩
  rcases step_cases next with rfl | ⟨rest, run⟩ | ⟨levels, rest, front, rfl⟩
  · exact ⟨laws, names⟩
  · exact ⟨(EventsIn.keep (P := SlotStep) (fun _ _ part => Event.slotStep part) run (popped rest)).laws,
      fun _ => EventsIn.keep (P := State.linkNames) (fun _ _ part => Event.linkNames part) run linkNames⟩
  · exact ⟨State.slotLaws_cellEnds _ (fun cell heard => State.dumpsHoldDistinctKeys_pending distinct front heard)
      (fun f flies => State.dumpsHoldDistinctKeys_flight distinct flies) linkNames silent places flight kinds
        (popped rest).laws,
      fun _ => State.linkNames_cellEnds (s := { s with pending := rest }) _ places flight linkNames⟩

end SlotEvents

end Sys2Proof.Machine
end

section
set_option Elab.async false
/-! Steps, resets and single operations (O1, O3, O4, O8, O44, O50). -/

namespace Sys2Proof.Machine

/-- Settles O1: a step takes the front command off the queue of waiting commands and runs it. -/
theorem stepRunsTheFrontCommand : Obligations.StepRunsTheFrontCommand := by
  unfold Obligations.StepRunsTheFrontCommand
  exact fun _ _ => ⟨rfl, rfl⟩

/-- Settles O3: the reset values are read off, and the laws are evaluated there. -/
theorem resetStateHoldsTheStatedValues : Obligations.ResetStateHoldsTheStatedValues := by
  unfold Obligations.ResetStateHoldsTheStatedValues
  refine ⟨⟨rfl, rfl, fun n => tab4_get _ n⟩, rfl, ⟨rfl, rfl, rfl, fun i => tab16_get _ i⟩, rfl, ⟨rfl, rfl, rfl, rfl⟩, rfl,
    ⟨rfl, rfl, fun n => tab4_get _ n⟩, rfl, rfl, ⟨rfl, rfl, rfl, rfl, rfl⟩, ⟨rfl, rfl, rfl, rfl, rfl⟩, ?_⟩
  decide

/-- Settles O4: each kind of reset is one write of the reset values. -/
theorem threeKindsOfReset : Obligations.ThreeKindsOfReset := by
  unfold Obligations.ThreeKindsOfReset
  intro s
  refine ⟨fun line => rfl, rfl, rfl, ?_⟩
  by_cases line : s.resetLine = true
  · rw [if_pos line]
    exact congrArg Host.Outcome.next (by rw [State.resetRequest, if_pos line]; rfl)
  · rw [if_neg line]
    exact congrArg Host.Outcome.next
      ((s.resetRequest_nil (by simpa using line)).trans (by rw [State.localReset, Bool.eq_false_iff.2 line]; rfl))

/-- Settles O8: the transmitter's state decides each report. -/
theorem linkBusyAndTheTransmitterReports : Obligations.LinkBusyAndTheTransmitterReports := by
  unfold Obligations.LinkBusyAndTheTransmitterReports
  refine ⟨fun s => congrArg Host.Outcome.next ?_, fun s => ⟨?_, ?_, ?_⟩⟩
  · unfold State.linkBusy
    congr 2
    cases s.membership.silence <;> rfl
  · exact congrArg Host.Outcome.next (if_congr beq_iff_eq rfl rfl)
  · exact congrArg Host.Outcome.next (if_congr beq_iff_eq rfl rfl)
  · exact congrArg Host.Outcome.next (if_congr beq_iff_eq rfl rfl)

/-- Settles O44: the bytes of a COLOR pixel are its data lines, and its Y fits in 12 bits; a MONO pixel's byte is the top
of its Y. -/
theorem pixelValues : Obligations.PixelValues := by
  unfold Obligations.PixelValues
  intro p
  have r := (pixelOf .color p).r.isLt
  have g := (pixelOf .color p).g.isLt
  have b := (pixelOf .color p).b.isLt
  have y := color_y_toNat p
  have low : (p.extractLsb' 0 12).toNat = p.toNat % 4096 := toNat_extractLsb'_low p 12
  refine ⟨?_, y, by omega, low, ?_, rfl, rfl⟩
  · apply BitVec.eq_of_toNat_eq
    simp only [pixelOf, toNat_append_eq_add, BitVec.extractLsb'_toNat, Nat.shiftRight_eq_div_pow]
    omega
  · exact (pixelOf .mono p).yHigh_toNat

/-- Settles O50: a deposit finds room, or is dropped and counted. -/
theorem noticesAreDeposited : Obligations.NoticesAreDeposited := by
  unfold Obligations.NoticesAreDeposited
  intro s n
  refine ⟨fun few => ?_, fun full => ?_, ?_⟩
  · rw [State.deposit, if_pos few]
    exact ⟨rfl, rfl⟩
  · rw [State.deposit, if_neg (by omega)]
    exact ⟨rfl, satInc8_toNat _⟩
  · unfold State.deposit
    split <;> rfl

end Sys2Proof.Machine
end

section
set_option Elab.async false
/-! O9, O10: what a slot of the grid starts (R111, R120, R121, R157, R169, R170). -/

namespace Sys2Proof.Machine

section Turns

variable {s : State} {j : Nat} {last : Option Nat}

theorem laterSlot_iff : laterSlot last j = true ↔ ∀ i ∈ last, i < j := by
  cases last <;> simp [laterSlot]

/-- R121: a slot begins once, behind the one before it, on an idle link. -/
theorem State.slotBegins_eq (grid : s.ladder.grid = .running last) (later : ∀ i ∈ last, i < j) (idle : s.link.busy = false) :
    s.slotBegins j =
      if j % 16 = s.ladder.rank.val then State.grantTurn { s with ladder := { s.ladder with grid := .running (some j) } }
      else { s with ladder := { s.ladder with grid := .running (some j) } } := by
  unfold State.slotBegins
  rw [grid]
  simp only [laterSlot_iff.2 later, idle, Bool.not_false, Bool.and_self, if_true]
  exact if_congr beq_iff_eq rfl rfl

theorem State.grantTurn_none (selected : s.selected = none) : s.grantTurn = s := by
  rw [State.grantTurn, selected]

theorem State.grantTurn_control {k : QueueKind} {c : QueuedCell} (selected : s.selected = some (.queue k))
    (first : (s.queue.find? fun d => d.kind == k) = some c) : s.grantTurn = s.startControl c := by
  rw [State.grantTurn, selected]
  simp only [first]

theorem State.grantTurn_tile {e : StoreEntry} {rest : List StoreEntry} (selected : s.selected = some .store)
    (store : s.store = e :: rest) : s.grantTurn = s.startTile e := by
  rw [State.grantTurn, selected]
  simp only [store]

theorem changeFirst_append {α : Type} {p : α → Bool} (f : α → α) {before : List α} {c : α} (after : List α)
    (skips : ∀ a ∈ before, p a = false) (is : p c = true) :
    changeFirst p f (before ++ c :: after) = before ++ f c :: after := by
  induction before with
  | nil => simp [changeFirst, is]
  | cons a rest ih =>
    rw [List.cons_append, changeFirst, if_neg (by simp [skips a List.mem_cons_self]),
      ih fun x mem => skips x (List.mem_cons_of_mem a mem)]
    rfl

theorem find?_kind_append {before : List QueuedCell} {c : QueuedCell} (after : List QueuedCell)
    (skips : ∀ d ∈ before, d.kind ≠ c.kind) :
    ((before ++ c :: after).find? fun d => d.kind == c.kind) = some c := by
  rw [List.find?_append, List.find?_eq_none.2 fun d mem => by simpa using skips d mem]
  simp

/-- R120, R169, R170: the cell whose turn it is. -/
theorem State.selected_of_turn {before after : List QueuedCell} {c : QueuedCell} (queue : s.queue = before ++ c :: after)
    (turn : (s.membership.state = .member ∧ before = []) ∨
      ((s.membership.state = .syncing ∨ s.membership.state = .suspect) ∧ c.kind = .query ∧
        ∀ d ∈ before, d.kind ≠ .query)) :
    s.selected = some (.queue c.kind) ∧ ∀ d ∈ before, d.kind ≠ c.kind := by
  rcases turn with ⟨member, rfl⟩ | ⟨state, kind, skips⟩
  · exact ⟨by simp [State.selected, member, queue], by simp⟩
  · have queries : s.queues .query = true := by
      rw [State.queues_query, queue]
      simp [kind]
    refine ⟨?_, by rw [kind]; exact skips⟩
    rcases state with state | state <;> simp [State.selected, state, queries, kind]

/-- R35: the frame a control cell carries. -/
theorem State.controlFrame_eq (s : State) (k : QueueKind) :
    s.controlFrame k = match k with
      | .close f => f
      | .query => if s.membership.state = .syncing then s.frame.lastHeard else s.frame.number
      | _ => s.frame.number := by
  cases k <;> simp [State.controlFrame]

theorem State.cropFor_eq (s : State) (k : QueueKind) :
    s.cropFor k = match k with
      | .claim n => (s.slotAt n).crop
      | _ => ⟨0, 0⟩ := by
  cases k <;> rfl

theorem State.sequenceFor_eq (s : State) (c : QueuedCell) : s.sequenceFor c = c.given.getD (s.membership.sequence + 1) := by
  unfold State.sequenceFor
  cases c.given <;> rfl

/-- R111, R70: a control cell's start: its number, its mark, and the link taken. -/
theorem State.startControl_eq {before after : List QueuedCell} {c : QueuedCell} (queue : s.queue = before ++ c :: after)
    (skips : ∀ d ∈ before, d.kind ≠ c.kind) :
    s.startControl c = { s with
      queue := before ++ { c with given := some (c.given.getD (s.membership.sequence + 1)), inFlight := true } :: after
      membership := { s.membership with
        sequence := if c.given = none then c.given.getD (s.membership.sequence + 1) else s.membership.sequence
        silence := if s.membership.silence = .running then .held else s.membership.silence }
      link := { s.link with
        busy := true, transmitter := .sending
        flight := some ⟨⟨⟨c.kind.kind.code, s.own,
          (match c.kind with
            | .close f => f
            | .query => if s.membership.state = .syncing then s.frame.lastHeard else s.frame.number
            | _ => s.frame.number),
          c.given.getD (s.membership.sequence + 1), lengthField (s.controlPayload c.kind).length, 0, 0⟩,
          s.controlPayload c.kind⟩, .queue c.kind,
          (match c.kind with
            | .claim n => (s.slotAt n).crop
            | _ => ⟨0, 0⟩), .none⟩ }
      ladder := { s.ladder with grid := .stopped } } := by
  rw [← State.controlFrame_eq, ← State.cropFor_eq, ← State.sequenceFor_eq]
  apply State.ext_fields
  case queue =>
    rw [State.startControl_queue, queue]
    exact changeFirst_append _ after (fun d mem => by simpa using skips d mem) (by simp)
  case membership =>
    have kept : (if c.given.isSome then s.membership.sequence else s.sequenceFor c) =
        if c.given = none then s.sequenceFor c else s.membership.sequence := by
      cases c.given <;> rfl
    simp only [← kept, ← beq_iff_eq (a := s.membership.silence)]
    rfl
  all_goals rfl

/-- R157: the first store entry's start. -/
theorem State.startTile_eq {e : StoreEntry} {rest : List StoreEntry} (store : s.store = e :: rest) :
    s.startTile e = { s with
      store := { e with inFlight := true } :: rest
      membership := { s.membership with
        silence := if s.membership.silence = .running then .held else s.membership.silence }
      link := { s.link with
        busy := true, transmitter := .sending
        flight := some ⟨⟨⟨4, s.own, e.frame, 0, lengthField e.sort.payload.length, if e.sort.isLast then 1 else 0,
          tileAux e.slot e.tileRow⟩, e.sort.payload⟩, .store, ⟨0, 0⟩, .none⟩ }
      ladder := { s.ladder with grid := .stopped } } := by
  apply State.ext_fields
  case store => exact congrArg (fun l => { e with inFlight := true } :: l) (congrArg (List.drop 1) store)
  case membership =>
    simp only [← beq_iff_eq (a := s.membership.silence)]
    rfl
  all_goals rfl

theorem State.not_queues_query (no : ∀ c ∈ s.queue, c.kind ≠ .query) : s.queues .query = false := by
  rw [State.queues_query]
  simpa using no

/-- Settles O9: the turn's selection, then what each start writes. -/
theorem turnStartsTheSelectedCell : Obligations.TurnStartsTheSelectedCell := by
  unfold Obligations.TurnStartsTheSelectedCell
  refine ⟨?_, ?_⟩
  · intro s j last before after c grid later idle rank queue turn
    refine congrArg Host.Outcome.next ((State.slotBegins_eq grid later idle).trans ?_)
    rw [if_pos rank]
    set t : State := { s with ladder := { s.ladder with grid := .running (some j) } } with t_is
    obtain ⟨selected, skips⟩ := State.selected_of_turn (s := t) queue turn
    have first : (t.queue.find? fun d => d.kind == c.kind) = some c := by
      rw [show t.queue = before ++ c :: after from queue]
      exact find?_kind_append after skips
    rw [State.grantTurn_control selected first, State.startControl_eq (s := t) queue skips]
    cases c.kind <;> rfl
  · intro s j last e rest grid later idle rank member none store
    refine congrArg Host.Outcome.next ((State.slotBegins_eq grid later idle).trans ?_)
    rw [if_pos rank]
    set t : State := { s with ladder := { s.ladder with grid := .running (some j) } } with t_is
    rw [State.grantTurn_tile (s := t) (by simp [State.selected, t_is, member, none, store]) store]
    rw [State.startTile_eq (s := t) store]
    cases e.sort <;> rfl

/-- Settles O10: nothing is selected, or no slot begins. -/
theorem slotStartsNothing : Obligations.SlotStartsNothing := by
  unfold Obligations.SlotStartsNothing
  refine ⟨?_, ?_⟩
  · intro s j last grid later idle nothing
    refine congrArg Host.Outcome.next ((State.slotBegins_eq grid later idle).trans ?_)
    rcases nothing with other | none
    · rw [if_neg other]
    · refine (ite_eq_right_iff.2 fun _ => State.grantTurn_none ?_)
      unfold State.selected
      cases state : s.membership.state <;> simp only [state] at none ⊢
      case member => rw [none.1, none.2]
      case syncing => exact if_neg (Bool.eq_false_iff.1 (State.not_queues_query none))
      case suspect => exact if_neg (Bool.eq_false_iff.1 (State.not_queues_query none))
  · intro s j past
    refine congrArg Host.Outcome.next ?_
    unfold State.slotBegins
    rcases past with stopped | busy | ⟨i, grid, le⟩
    · rw [stopped]
    · cases s.ladder.grid <;> simp [busy]
    · rw [grid]
      simp [laterSlot, Nat.not_lt.2 le]

end Turns

end Sys2Proof.Machine
end

section
set_option Elab.async false
/-! O2: every command completes, and what only some commands reach. -/

namespace Sys2Proof.Machine

/-- The parts that only this command has in this state. -/
def scopeOf (c : Instr) (s : State) : Scope where
  resets := s.resetBy c ≠ none
  releases := c = .resetnReleased
  attempts := ∃ read, c = .strapAttemptEnd read
  starts := ∃ j, c = .slotStart j
  rejoins := c = .rejoin [] ∨ ∃ bytes, c = .requestWindow bytes ∧ decodeWindowBytes bytes = some (.rejoin [])
  expires := c = .queryTimerExpiry

theorem scopeOf_covers (c : Instr) (s : State) : (scopeOf c s).Covers c s where
  resets := id
  releases := id
  attempts read is := ⟨read, is⟩
  starts j is := ⟨j, is⟩
  rejoins := id
  expires := id

section Completes

variable {w : Scope} {s t : State}

theorem takeLine_model_fields (row : Nat) (pixels : List Pixel) (n : SlotNo) :
    (takeLine row pixels s n).pending = s.pending ∧ (takeLine row pixels s n).free = s.free ∧
    (takeLine row pixels s n).resetLine = s.resetLine := by
  have handled : ∀ f next missing rows packed, (s.handleRow n f next missing rows packed).pending = s.pending ∧
      (s.handleRow n f next missing rows packed).free = s.free ∧
      (s.handleRow n f next missing rows packed).resetLine = s.resetLine := by
    intro f next missing rows packed
    cases packed <;> simp only [State.handleRow] <;> repeat' split
    all_goals exact ⟨rfl, rfl, rfl⟩
  unfold takeLine
  repeat' split
  all_goals simp [handled]

/-- No part of a command draws a free value or reaches the queue of waiting commands, and only the resets and the release
reach the RESETn level. -/
theorem EventIn.model_fields (part : EventIn w s t) :
    t.pending = s.pending ∧ t.free = s.free ∧ (¬w.resets → ¬w.releases → t.resetLine = s.resetLine) := by
  cases part with
  | reset _ _ _ may => exact ⟨rfl, rfl, fun noReset => absurd may noReset⟩
  | resetLine _ may => exact ⟨rfl, rfl, fun _ noRelease => absurd may noRelease⟩
  | fails d => rcases s.strapFailed_cases d with ⟨-, is⟩ | ⟨-, is⟩ <;> rw [is] <;> simp
  | founds => simp [State.found]
  | selfTrusts => simp [State.selfTrust]
  | fallsBack => simp [State.syncingFallback]
  | captureBegins n => unfold beginCapture; split <;> simp
  | captureEnds n => unfold endEarly; split <;> simp [State.endTile]
  | line row pixels n => simp [takeLine_model_fields]
  | slotOff n => simp only [State.slotOff]; repeat' (first | split | simp)
  | loads => simp
  | closeQueued => simp
  | queryRepeats => simp
  | settles => simp
  | slotOn n => simp
  | leave => simp
  | _ => exact ⟨rfl, rfl, fun _ _ => rfl⟩

/-! ### The free values that a cell's end can draw (log entry 6) -/

/-- At most one free value is drawn. -/
def State.drawsOne (s t : State) : Prop := s.free ≤ t.free ∧ t.free ≤ s.free + 1

theorem State.drawsOne_of_eq (same : t.free = s.free) : s.drawsOne t := by
  rw [State.drawsOne, same]
  omega

theorem State.applyClaim_drawsOne (i : Station) (b : ClaimBody) (crop : Option Crop) :
    s.drawsOne (s.applyClaim i b crop) := by
  unfold State.applyClaim
  simp only []
  split
  · split
    · exact State.drawsOne_of_eq (by simp)
    · exact State.drawsOne_of_eq rfl
  · next why _ =>
    split
    · cases why <;> simp [State.claimRefused, State.drawsOne]
    · exact State.drawsOne_of_eq rfl

theorem drawsOne_units {hd : Header} {p : Option (List Byte)} (own : Option Flight) (s : State) :
    UnitRules hd p own (fun t => t.free = s.free) s.drawsOne where
  leads _ h := State.drawsOne_of_eq h
  count _ _ h := h
  mutes _ _ _ _ _ h := State.drawsOne_of_eq (by simpa using h)
  hears _ _ _ h := State.drawsOne_of_eq (by simpa [State.hears, State.recordFrame] using h)
  records _ _ _ h := h
  queryTimer _ _ _ h := State.drawsOne_of_eq h
  installs _ _ _ _ _ _ h := State.drawsOne_of_eq (by simpa using h)
  recording _ _ part _ h := by cases part <;> simpa using h
  suspects _ _ _ h := by simpa using h
  tile _ _ _ h := State.drawsOne_of_eq (by simpa using h)
  claim t _ _ _ h := by
    have drawn := State.applyClaim_drawsOne (s := t) hd.sender (claimOf ‹_›) (own.map Flight.crop)
    rwa [State.drawsOne, h] at drawn
  release _ _ _ _ h := State.drawsOne_of_eq (by simpa using h)
  bye _ _ _ h := State.drawsOne_of_eq (by simpa using h)
  close _ _ _ h := State.drawsOne_of_eq (by simpa using h)
  asked _ _ _ h := State.drawsOne_of_eq (by simpa [State.answerQuery] using h)
  served _ _ _ _ h := by simpa using h

theorem State.drawsOne_handOver (c : CellClass) (own : Option Flight) (same : t.free = s.free) :
    s.drawsOne (t.handOver c own) :=
  UnitRules.handOver_good c (fun _ _ _ => drawsOne_units own s) State.drawsOne_of_eq same

theorem State.cellEnds_drawsOne (s : State) (j : Judged) : s.drawsOne (s.cellEnds j) := by
  have settled : ∀ {u : State}, s.drawsOne u → s.drawsOne u.settleAttempts := fun h => by simpa [State.drawsOne] using h
  rcases s.cellEnds_cases j with is | ⟨-, -, is⟩ | ⟨-, -, is⟩ | ⟨-, is⟩ | ⟨f, -, is⟩ | ⟨f, -, -, -, -, is⟩ <;> rw [is]
  · exact State.drawsOne_of_eq rfl
  · exact State.drawsOne_of_eq rfl
  · exact State.drawsOne_of_eq rfl
  · exact settled (State.drawsOne_handOver _ _ rfl)
  · exact settled (State.drawsOne_handOver _ _ (by cases f with | mk c src => cases src <;> rfl))
  · refine settled (State.drawsOne_of_eq ?_)
    rcases (s.afterLost f j).ownCellAborted_cases f.source (f.report == .mismatched) with
      ⟨-, is⟩ | ⟨-, -, is⟩ | ⟨-, n, -, is⟩ | ⟨-, k, -, -, is⟩ <;> rw [is] <;>
      simp [State.marksCleared, State.afterLost, State.afterLink]

/-- R172, R205: a command that resets the station by the local port finds RESETn released and leaves it so. -/
theorem resetLine_of_reset {c : Instr} (resets : s.resetBy c ≠ none) (notPower : ∀ b, c ≠ .powerOn b)
    (notLine : c ≠ .resetnAsserted) (next : exec c s = .next t) : t.resetLine = s.resetLine := by
  cases c with
  | powerOn b => exact absurd rfl (notPower b)
  | resetnAsserted => exact absurd rfl notLine
  | reset body =>
    obtain ⟨rfl, released⟩ : body = [] ∧ s.resetLine = false := by simpa [State.resetBy] using resets
    obtain rfl := Host.Outcome.next.inj next
    rw [s.resetRequest_nil released]
    rfl
  | requestWindow bytes =>
    obtain ⟨spells, released⟩ : decodeWindowBytes bytes = some (.reset []) ∧ s.resetLine = false := by
      simpa [State.resetBy] using resets
    obtain rfl := Host.Outcome.next.inj next
    rw [s.window_of_reset spells, s.resetRequest_nil released]
    rfl
  | _ => exact absurd rfl resets

end Completes

/-- Settles O2: a cell's end by its cases, every other command by its parts. -/
theorem everyCommandCompletes : Obligations.EveryCommandCompletes := by
  intro c s
  by_cases cell : ∃ levels, c = .cellEnd levels
  · obtain ⟨levels, rfl⟩ := cell
    obtain ⟨strap, line, pending⟩ := s.cellEnds_frame (judgeLevels levels)
    obtain ⟨least, most⟩ := s.cellEnds_drawsOne (judgeLevels levels)
    exact ⟨_, rfl, pending, fun _ _ _ => line, fun _ _ => strap, fun other => absurd rfl (other levels), least, most⟩
  · have other : ∀ levels, c ≠ .cellEnd levels := fun levels is => cell ⟨levels, is⟩
    obtain ⟨t, next, run⟩ := exec_runs_events s (scopeOf_covers c s) other
    obtain ⟨pending, free, line⟩ : t.pending = s.pending ∧ t.free = s.free ∧
        (¬(scopeOf c s).resets → ¬(scopeOf c s).releases → t.resetLine = s.resetLine) :=
      run.keep (P := fun t => t.pending = s.pending ∧ t.free = s.free ∧
          (¬(scopeOf c s).resets → ¬(scopeOf c s).releases → t.resetLine = s.resetLine))
        (fun u v part ⟨pending, free, line⟩ => ⟨part.model_fields.1.trans pending, part.model_fields.2.1.trans free,
          fun noReset noRelease => (part.model_fields.2.2 noReset noRelease).trans (line noReset noRelease)⟩)
        ⟨rfl, rfl, fun _ _ => rfl⟩
    refine ⟨t, next, pending, fun notPower notLine notReleased => ?_,
      fun noReset noAttempt => exec_strap noReset noAttempt next,
      fun _ => free, free.ge, by omega⟩
    by_cases resets : s.resetBy c = none
    · exact line (not_not_intro resets) notReleased
    · exact resetLine_of_reset resets notPower notLine next


end Sys2Proof.Machine
end

section
set_option Elab.async false
/-! O39, O38: a station in MUTED is frozen (R77); the rank, the lengths of the timers and the attempt count (R119, R125,
R128). -/

namespace Sys2Proof.Machine

section Muted

variable {w : Scope} {s t u : State}

/-- What a station in MUTED keeps until a reset. -/
structure State.FrozenAs (s t : State) : Prop where
  membership : t.membership = s.membership
  claims : t.claims = s.claims
  frame : t.frame = s.frame
  recovery : t.recovery = s.recovery
  attempts : t.ladder.attempts = s.ladder.attempts
  contexts : t.capture.contexts = s.capture.contexts
  empty : t.Empty

theorem State.FrozenAs.muted (h : s.FrozenAs t) (muted : s.isMuted = true) : t.isMuted = true := by
  rw [State.isMuted, h.membership]; exact muted

/-- The timers of a station in MUTED are stopped. -/
theorem State.timers_of_muted (timers : s.timersLawful = true) (muted : s.isMuted = true) :
    s.frame.timerRunning = false ∧ s.recovery.timerRunning = false ∧ s.membership.silence = .stopped := by
  obtain ⟨frame, query, silence⟩ := State.timersLawful_iff.1 timers
  unfold State.isMuted at muted
  cases state : s.membership.state <;> simp [state] at muted
  simpa [state] using And.intro frame (And.intro query silence)

theorem State.selected_of_muted (muted : s.isMuted = true) : s.selected = none := by
  unfold State.isMuted at muted
  unfold State.selected
  cases state : s.membership.state <;> simp [state] at muted ⊢

theorem State.settleAttempts_of_muted (muted : s.isMuted = true) : s.settleAttempts = s := by
  simp [State.settleAttempts, muted]

theorem State.units_of_muted (muted : s.isMuted = true) (h : Header) (p : Option (List Byte)) (own : Option Flight) :
    s.units h p own = s := by
  unfold State.isMuted at muted
  unfold State.units
  cases state : s.membership.state <;> simp [state] at muted ⊢

theorem State.handOver_of_muted (muted : s.isMuted = true) (c : CellClass) (own : Option Flight) : s.handOver c own = s := by
  cases c with
  | heard cell => exact State.units_of_muted muted _ _ _
  | headerHeard h => exact State.units_of_muted muted _ _ _
  | damaged => rfl

theorem State.isMuted_iff : s.isMuted = true ↔ ∃ c, s.membership.state = .muted c := by
  unfold State.isMuted
  cases s.membership.state <;> simp

theorem EventIn.frozen (part : EventIn w s t) (noReset : ¬w.resets) (muted : s.isMuted = true)
    (timers : s.timersLawful = true)
    (empty : s.Empty) : s.FrozenAs t := by
  obtain ⟨cause, state⟩ := State.isMuted_iff.1 muted
  obtain ⟨frame, query, silence⟩ := State.timers_of_muted timers muted
  have same : s.FrozenAs s := ⟨rfl, rfl, rfl, rfl, rfl, rfl, empty⟩
  cases part with
  | reset _ _ _ may => exact absurd may noReset
  | loads _ strap => simp [state] at strap
  | fails _ strap => simp [state] at strap
  | linkBusy =>
    refine ⟨?_, rfl, rfl, rfl, rfl, rfl, State.Empty.congr (s := s) rfl rfl rfl rfl rfl empty⟩
    simp only [State.linkBusy]
    rw [if_neg (by simp [silence])]
  | mismatch sending => simp [empty.transmitter] at sending
  | matched sending => simp [empty.transmitter] at sending
  | markDone marking => simp [empty.transmitter] at marking
  | control _ selected => simp [State.selected_of_muted muted] at selected
  | tile _ _ selected => simp [State.selected_of_muted muted] at selected
  | founds listen => simp [state] at listen
  | frameTimerStops =>
    exact ⟨rfl, rfl, by rw [State.setFrameTimer, ← frame], rfl, rfl, rfl,
      State.Empty.congr (s := s) rfl rfl rfl rfl rfl empty⟩
  | closeQueued member => simp [state] at member
  | queryRepeats running => simp [query] at running
  | queryTimerStops =>
    exact ⟨rfl, rfl, rfl, by rw [State.setQueryTimer, ← query], rfl, rfl,
      State.Empty.congr (s := s) rfl rfl rfl rfl rfl empty⟩
  | selfTrusts suspect => simp [state] at suspect
  | fallsBack syncing => simp [state] at syncing
  | settles => rwa [State.settleAttempts_of_muted muted]
  | captureBegins n => rwa [(capture_idle_of_empty n empty).1]
  | captureEnds n => rwa [(capture_idle_of_empty n empty).2.1]
  | line row pixels n => rwa [(capture_idle_of_empty n empty).2.2]
  | slotOff _ allows => simp [state, stateAllows, stateAllows.slotsAllowed] at allows
  | slotOn _ allows => simp [state, stateAllows, stateAllows.slotsAllowed] at allows
  | slotSet _ _ _ _ allows => simp [state, stateAllows, stateAllows.slotsAllowed] at allows
  | leave member => simp [state] at member
  | rejoin left => simp [state] at left
  | _ => exact ⟨rfl, rfl, rfl, rfl, rfl, rfl, State.Empty.congr (s := s) rfl rfl rfl rfl rfl empty⟩

/-- A cell that ends at a station in MUTED moves the link only. -/
theorem State.cellEnds_frozen (muted : s.isMuted = true) (empty : s.Empty) (j : Judged) : s.FrozenAs (s.cellEnds j) := by
  obtain ⟨cause, state⟩ := State.isMuted_iff.1 muted
  rcases s.cellEnds_cases j with is | ⟨-, -, is⟩ | ⟨-, -, is⟩ | ⟨-, is⟩ | ⟨f, ends, is⟩ | ⟨f, -, -, flight, -, is⟩
  · rw [is]
    exact ⟨rfl, rfl, rfl, rfl, rfl, rfl, empty⟩
  · rw [is]
    exact ⟨rfl, rfl, rfl, rfl, rfl, rfl, State.Empty.congr (s := s) rfl rfl rfl rfl rfl empty⟩
  · rw [is]
    exact ⟨by simp only [State.receiverTaken]; rw [if_neg (by simp [state])], rfl, rfl, rfl, rfl, rfl,
      State.Empty.congr (s := s) rfl rfl rfl rfl rfl empty⟩
  · have heard : (s.afterLink j).isMuted = true := muted
    rw [is, State.handOver_of_muted heard, State.settleAttempts_of_muted heard]
    exact ⟨by simp only [State.afterLink]; rw [if_neg (by simp [state])], rfl, rfl, rfl, rfl, rfl,
      State.Empty.congr (s := s) rfl rfl rfl rfl rfl empty⟩
  · simp [State.ends_iff, empty.flight] at ends
  · simp [empty.flight] at flight

end Muted

/-- Settles O39: no part of a command but a reset, and no cell, moves a station in MUTED. -/
theorem mutedIsFrozenUntilAReset : Obligations.MutedIsFrozenUntilAReset := by
  intro c s t silent timers muted noReset next
  have empty : s.Empty := State.silentEmpty_iff.1 silent (by
    obtain ⟨cause, state⟩ := State.isMuted_iff.1 muted
    simp [state, StationState.silent])
  have frozen : s.FrozenAs t := by
    by_cases cell : ∃ levels, c = .cellEnd levels
    · obtain ⟨levels, rfl⟩ := cell
      obtain rfl := Host.Outcome.next.inj next
      exact State.cellEnds_frozen muted empty _
    · have run := exec_eventsIn (scopeOf_covers c s) (fun levels is => cell ⟨levels, is⟩) next
      refine run.keep (fun u v part h => ?_) ⟨rfl, rfl, rfl, rfl, rfl, rfl, empty⟩
      have timersU : u.timersLawful = true := by
        rw [State.timersLawful_congr (s := s) (by rw [h.frame]) (by rw [h.recovery]) (by rw [h.membership])
          (by rw [h.membership]) timers]
      have g := part.frozen (not_not_intro noReset) (h.muted muted) timersU h.empty
      exact ⟨g.membership.trans h.membership, g.claims.trans h.claims, g.frame.trans h.frame, g.recovery.trans h.recovery,
        g.attempts.trans h.attempts, g.contexts.trans h.contexts, g.empty⟩
  have strap : t.strap = s.strap := by
    by_cases attempt : ∃ read, c = .strapAttemptEnd read
    · obtain ⟨read, rfl⟩ := attempt
      obtain rfl := Host.Outcome.next.inj next
      obtain ⟨cause, state⟩ := State.isMuted_iff.1 muted
      rw [if_neg (by simp [State.loading, state])]
    · exact exec_strap noReset (fun read is => attempt ⟨read, is⟩) next
  exact ⟨frozen.membership, frozen.claims, frozen.frame, frozen.recovery, frozen.attempts, frozen.empty.queue,
    frozen.empty.store,
    frozen.empty.transmitter, frozen.empty.flight, frozen.contexts, strap⟩

/-! ### Ranks and attempts -/

theorem rankOf_toNat (own x : Station) : (rankOf own (some x)).val = (own.val + 31 - x.val) % 16 := by
  have := x.isLt
  have := own.isLt
  simp only [rankOf, Fin.sub_def, Fin.val_one]
  omega

theorem State.settleAttempts_eq (s : State) : s.settleAttempts = { s with ladder := { s.ladder with attempts :=
    match s.membership.state with
    | .muted _ => s.ladder.attempts
    | .member => if s.queue = [] ∧ s.store = [] then 0 else s.ladder.attempts
    | .syncing => if s.queue.any (fun c => c.kind = .query) then s.ladder.attempts else 0
    | .suspect => if s.queue.any (fun c => c.kind = .query) then s.ladder.attempts else 0
    | _ => 0 } } := by
  apply State.ext_fields
  case ladder =>
    simp only [← State.queues_query]
    unfold State.settleAttempts State.contends State.selected State.isMuted State.setAttempts
    cases state : s.membership.state with
    | member => cases s.queue <;> cases s.store <;> simp
    | syncing => cases s.queues .query <;> simp
    | suspect => cases s.queues .query <;> simp
    | _ => simp
  all_goals simp

/-- Settles O38: stations are numbers mod 16, the lengths are the words' own, and R128 is read off the selection. -/
theorem rankAndAttemptCount : Obligations.RankAndAttemptCount := by
  refine ⟨⟨rankOf_toNat, fun _ => rfl, fun x => ⟨?_, ?_⟩, fun l a b same => ?_, fun s => ?_⟩, State.settleAttempts_eq⟩
  · simp [rankOf]
  · rw [rankOf_toNat]
    have := x.isLt
    omega
  · cases l with
    | none => exact same
    | some x => simpa [rankOf] using same
  · refine ⟨Nat.mul_comm _ _, Nat.mul_comm _ _, ?_, rfl⟩
    show 2 * strapFrameTimeout s.strap.words * 1024 = 2048 * strapFrameTimeout s.strap.words
    omega

end Sys2Proof.Machine
end

section
set_option Elab.async false
/-! The local port: what a window spells (R184, R185, R187), the reply a read window shifts out (R186, R208), and the
judgements of a request (R188, R189). -/

namespace Sys2Proof.Machine

/-! ### Bytes and their sums -/

theorem wordBytes_ofNat (n : Nat) :
    wordBytes (BitVec.ofNat 16 n) = [BitVec.ofNat 8 (n % 256), BitVec.ofNat 8 (n / 256)] := by
  simp only [wordBytes, List.cons.injEq, and_true, ← BitVec.toNat_inj, BitVec.extractLsb'_toNat, BitVec.toNat_ofNat,
    Nat.shiftRight_eq_div_pow]
  omega

theorem byteSum_eq (bytes : List Byte) (sum : Byte) : bytes.foldl (· + ·) sum = sum + byteSum bytes := by
  induction bytes generalizing sum with
  | nil => simp [byteSum]
  | cons b rest ih =>
    rw [byteSum, List.foldl_cons, List.foldl_cons, ih, ih (0 + b)]
    simp [BitVec.add_assoc]

theorem byteSum_cons (b : Byte) (bytes : List Byte) : byteSum (b :: bytes) = b + byteSum bytes := by
  rw [byteSum, List.foldl_cons, byteSum_eq]
  simp

theorem byteSum_append (a b : List Byte) : byteSum (a ++ b) = byteSum a + byteSum b := by
  rw [byteSum, List.foldl_append, byteSum_eq]
  rfl

theorem byteSum_toNat (bytes : List Byte) : (byteSum bytes).toNat = (bytes.map BitVec.toNat).sum % 256 := by
  induction bytes with
  | nil => rfl
  | cons b rest ih =>
    rw [byteSum_cons, BitVec.toNat_add, ih, List.map_cons, List.sum_cons]
    omega

theorem byteSum_eq_zero_iff (bytes : List Byte) : byteSum bytes = 0 ↔ (bytes.map BitVec.toNat).sum % 256 = 0 := by
  rw [← byteSum_toNat, ← BitVec.toNat_inj]
  rfl

/-- The check byte makes the sum 0. -/
theorem byteSum_checkByte (head : List Byte) : byteSum (head ++ [checkByte head]) = 0 := by
  rw [byteSum_append, byteSum_cons]
  simp [checkByte, byteSum]

/-! ### The reply -/

theorem Reply.length_bytes (r : Reply) : r.bytes.length = r.body.length + 4 := by
  simp [Reply.bytes, wordBytes]

/-- R208: status with the OVERRUN mark, body length, body, check byte. -/
theorem Reply.bytes_eq (r : Reply) :
    r.bytes = [r.status.code + (if r.overrun then 0x80 else 0), BitVec.ofNat 8 (r.body.length % 256),
      BitVec.ofNat 8 (r.body.length / 256)] ++ r.body ++ [r.bytes.getLastD 0] := by
  have mark : BitVec.ofNat 8 (r.status.code.toNat + 128 * r.overrun.toNat) =
      r.status.code + (if r.overrun then 0x80 else 0) := by
    cases r.overrun <;> simp [BitVec.ofNat_add]
  have last : ∀ (head : List Byte) (b : Byte), (head ++ [b]).getLastD 0 = b :=
    fun head b => by simp [List.getLastD_eq_getLast?]
  rw [Reply.bytes, last, wordBytes_ofNat, mark]
  rfl

theorem Reply.sum_bytes (r : Reply) : (r.bytes.map BitVec.toNat).sum % 256 = 0 :=
  (byteSum_eq_zero_iff _).1 (byteSum_checkByte _)

/-- Settles O46: the cases of the buffer and the line, and the reply's bytes. -/
theorem readWindow : Obligations.ReadWindow := by
  intro s n sized
  refine ⟨congrArg Host.Outcome.next ?_, fun r _ => ⟨r.bytes_eq, r.sum_bytes⟩⟩
  unfold State.readWindow
  rw [if_neg (by omega)]
  cases reply : s.port.reply with
  | none =>
    split
    · rfl
    · rfl
  | some r =>
    simp only []
    split
    · rfl
    · rw [r.length_bytes]
      split
      · rfl
      · simp [State.setLdo, readLdo, reply]

/-! ### What a window spells -/

theorem byteOfBits_bits (b : Byte) :
    byteOfBits (b.getLsbD 7) (b.getLsbD 6) (b.getLsbD 5) (b.getLsbD 4) (b.getLsbD 3) (b.getLsbD 2) (b.getLsbD 1)
      (b.getLsbD 0) = b := by
  revert b
  decide

/-- R184: the bits of bytes give the bytes back. -/
theorem bytesOfBits_bitsOfBytes (bytes : List Byte) : bytesOfBits (bitsOfBytes bytes) = bytes := by
  induction bytes with
  | nil => rfl
  | cons b rest ih =>
    rw [bitsOfBytes, List.flatMap_cons]
    show byteOfBits _ _ _ _ _ _ _ _ :: bytesOfBits (bitsOfBytes rest) = _
    rw [byteOfBits_bits, ih]

theorem frameBody_frameOf (code : Byte) (body : List Byte) : frameBody (frameOf code body) = body := by
  simp [frameBody, frameOf]

/-- R187: a frame of a body that the length byte can hold is whole. -/
theorem frameWhole_frameOf (code : Byte) {body : List Byte} (short : body.length < 256) :
    frameWhole (frameOf code body) = true := by
  have sum := byteSum_checkByte (code :: BitVec.ofNat 8 body.length :: body)
  simp only [frameWhole, Bool.and_eq_true, decide_eq_true_eq, beq_iff_eq]
  refine ⟨⟨by simp [frameOf], ?_⟩, sum⟩
  simp [frameOf, Nat.mod_eq_of_lt short]
  omega

/-- A whole frame of a request's code and body spells the request. -/
theorem decodeWindowBytes_frameOf {code : Byte} {body : List Byte} {c : Instr} (nonzero : code ≠ 0)
    (short : body.length < 256) (request : requestOf code.toNat body = some c) :
    decodeWindowBytes (frameOf code body) = some c := by
  have whole := frameWhole_frameOf code short
  have same := frameBody_frameOf code body
  obtain ⟨rest, is⟩ : ∃ rest, frameOf code body = code :: rest := ⟨_, rfl⟩
  rw [is] at whole same ⊢
  rw [decodeWindowBytes, if_neg (by simpa using nonzero), if_pos whole, same, request]

theorem decodeWindowBytes_zeros {n : Nat} (sized : 1 ≤ n) :
    decodeWindowBytes (List.replicate n 0) = some (.readWindow n) := by
  obtain ⟨m, rfl⟩ : ∃ m, n = m + 1 := ⟨n - 1, by omega⟩
  rw [List.replicate_succ, decodeWindowBytes]
  simp

/-- Settles O53: the bits give the bytes back, and the bytes the command. -/
theorem windowsSpellTheirCommands : Obligations.WindowsSpellTheirCommands := by
  intro c wf isPort
  obtain ⟨bytes, spelled⟩ := Option.isSome_iff_exists.1 isPort
  refine ⟨bitsOfBytes bytes, by rw [encodeWindow, spelled]; rfl, ?_⟩
  rw [decodeWindow, bytesOfBits_bitsOfBytes]
  have frames : ∀ {code : Byte} {body : List Byte}, bodyWf body = true → code ≠ 0 → requestOf code.toNat body = some c →
      some (frameOf code body) = some bytes → decodeWindowBytes bytes = some c := by
    rintro code body short nonzero request ⟨⟩
    exact decodeWindowBytes_frameOf nonzero (by simpa [bodyWf, Nat.lt_succ_iff] using short) request
  cases c with
  | readWindow n => cases spelled; exact decodeWindowBytes_zeros (by simpa [Instr.wf] using wf)
  | requestWindow b => cases spelled; simpa [Instr.wf] using wf
  | status b => exact frames wf (by decide) rfl spelled
  | table b => exact frames wf (by decide) rfl spelled
  | roster b => exact frames wf (by decide) rfl spelled
  | counters b => exact frames wf (by decide) rfl spelled
  | notice b => exact frames wf (by decide) rfl spelled
  | slotOff b => exact frames wf (by decide) rfl spelled
  | slotOn b => exact frames wf (by decide) rfl spelled
  | slotSet b => exact frames wf (by decide) rfl spelled
  | leave b => exact frames wf (by decide) rfl spelled
  | rejoin b => exact frames wf (by decide) rfl spelled
  | reset b => exact frames wf (by decide) rfl spelled
  | _ => cases spelled

end Sys2Proof.Machine
end

section
set_option Elab.async false
/-! Requests: the judgements of a request in their order (R187 to R190), LEAVE, REJOIN and the refused RESET (R198 to
R200). -/

namespace Sys2Proof.Machine

section Judgement

variable (s : State)

/-- R189: the status with which a request is refused; none when it is executed. -/
def State.refusal (code : Nat) (body : List Byte) : Option Status :=
  if body.length ≠ bodyLength code then some .refusedArg
  else if stateAllows s.membership.state code = false then some .refusedState
  else if s.byeForbids code = true then some .refusedState
  else if argsInRange code body = false then some .refusedArg
  else none

theorem State.judgeRequest_eq (code : Nat) (body : List Byte) (run : State → State) :
    s.judgeRequest code body run =
      match s.refusal code body with
      | some why => s.replyWith why []
      | none => run s := by
  simp only [State.judgeRequest, State.refusal, bne_iff_ne, Bool.not_eq_true']
  repeat' split
  all_goals simp_all

theorem State.request_asserted {code : Nat} {body : List Byte} {run : State → State} (asserted : s.resetLine = true) :
    s.request code body run = { s with port := { s.port with ldo := List.replicate (body.length + 3) 0 } } := by
  simp [State.request, asserted, State.setLdo]

theorem State.request_lost {code : Nat} {body : List Byte} {run : State → State} (released : s.resetLine = false) {r : Reply}
    (waits : s.port.reply = some r) :
    s.request code body run = { s with port := { s.port with
      ldo := (r.bytes.take 1 ++ List.replicate (body.length + 3) 0).take (body.length + 3)
      reply := some { r with overrun := true } } } := by
  simp [State.request, released, waits, State.setLdo, State.overrun, State.setReply, requestLdo]

theorem State.request_judged {code : Nat} {body : List Byte} {run : State → State} (released : s.resetLine = false)
    (empty : s.port.reply = none) :
    s.request code body run =
      match s.refusal code body with
      | some why => s.answered (body.length + 3) why []
      | none => run (s.setLdo (List.replicate (body.length + 3) 0)) := by
  rw [State.request, if_neg (by simp [released])]
  simp only [empty, Option.isSome_none, requestLdo, Bool.false_eq_true, if_false]
  rw [State.judgeRequest_eq]
  have same : (s.setLdo (List.replicate (body.length + 3) 0)).refusal code body = s.refusal code body := rfl
  rw [same]
  cases s.refusal code body <;> rfl

variable {s} in
theorem State.asks_iff : s.asks = true ↔ s.resetLine = false ∧ s.port.reply = none := by
  simp [State.asks]

/-- A request that passes its judgements runs. -/
theorem State.request_runs {code : Nat} {body : List Byte} {run : State → State} (asks : s.asks = true)
    (passes : s.refusal code body = none) :
    s.request code body run = run (s.setLdo (List.replicate (body.length + 3) 0)) := by
  obtain ⟨released, empty⟩ := State.asks_iff.1 asks
  rw [s.request_judged released empty, passes]

/-- A command that is one of the ten judged requests runs its own rule. -/
theorem exec_request {c : Instr} {code : Byte} {body : List Byte} (is : requestCode c = some (code, body))
    (notReset : code ≠ 11) :
    ∃ run : State → State, ∀ s, exec c s = .next (s.request code.toNat body run) := by
  cases c with
  | status b => cases is; exact ⟨_, fun _ => rfl⟩
  | table b => cases is; exact ⟨_, fun _ => rfl⟩
  | roster b => cases is; exact ⟨_, fun _ => rfl⟩
  | counters b => cases is; exact ⟨_, fun _ => rfl⟩
  | notice b => cases is; exact ⟨_, fun _ => rfl⟩
  | slotOff b => cases is; exact ⟨_, fun _ => rfl⟩
  | slotOn b => cases is; exact ⟨_, fun _ => rfl⟩
  | slotSet b => cases is; exact ⟨_, fun _ => rfl⟩
  | leave b => cases is; exact ⟨_, fun _ => rfl⟩
  | rejoin b => cases is; exact ⟨_, fun _ => rfl⟩
  | reset b => cases is; exact absurd rfl notReset
  | _ => cases is

theorem stateAllows_iff (st : StationState) (code : Nat) :
    stateAllows st code = true ↔
      (code = 6 ∨ code = 7 ∨ code = 8 → st = .listen ∨ st = .syncing ∨ st = .member ∨ st = .suspect) ∧
      (code = 9 → st = .member) ∧ (code = 10 → st = .left) := by
  unfold stateAllows
  split <;> simp_all [stateAllows.slotsAllowed, or_assoc]

theorem bye_place (k : QueueKind) : k.place = QueueKind.bye.place ↔ k = .bye := by
  cases k <;> simp [QueueKind.place, Fin.ext_iff] <;> omega

theorem State.byeForbids_iff (code : Nat) :
    s.byeForbids code = true ↔ (6 ≤ code ∧ code ≤ 9) ∧ (s.queue.any fun d => d.kind = .bye) = true := by
  simp [State.byeForbids, State.byeQueued, State.queues, beq_iff_eq, bye_place]

theorem argsInRange_iff (code : Nat) (body : List Byte) :
    argsInRange code body = false ↔ code = 4 ∧ 1 < (body.getD 0 0).toNat ∨ (code = 6 ∨ code = 7 ∨ code = 8) ∧ 3 <
      (body.getD 0 0).toNat := by
  unfold argsInRange
  split <;> simp_all [bodySlot]

end Judgement

/-! ### What a request window does -/

section Windows

variable (s : State)

/-- R187: a whole frame of a known code is its request. -/
theorem exec_requestOf {code : Nat} {body : List Byte} {c : Instr} (known : requestOf code body = some c) :
    ∃ t, s.requestByCode code body = some t ∧ exec c s = .next t := by
  unfold requestOf at known
  split at known
  case h_12 => cases known
  all_goals
    obtain rfl := Option.some.inj known
    exact ⟨_, rfl, rfl⟩

theorem requestByCode_unknown {code : Nat} {body : List Byte} (unknown : requestOf code body = none) :
    s.requestByCode code body = none := by
  unfold requestOf at unknown
  split at unknown
  case h_12 =>
    unfold State.requestByCode
    split <;> first | rfl | simp_all
  all_goals cases unknown

theorem requestOf_ne_requestWindow (code : Nat) (body bytes : List Byte) :
    requestOf code body ≠ some (.requestWindow bytes) := by
  unfold requestOf
  split <;> simp

/-- R185, R187: a window does what the command it spells does. -/
theorem exec_window_of_spelled {bytes : List Byte} {c : Instr} (spells : decodeWindowBytes bytes = some c)
    (other : c ≠ .requestWindow bytes) : exec (.requestWindow bytes) s = exec c s := by
  cases bytes with
  | nil => cases spells
  | cons first rest =>
    simp only [decodeWindowBytes] at spells
    show Host.Outcome.next (s.window (first :: rest)) = _
    rw [State.window]
    split at spells
    · next zero =>
      rw [if_pos zero]
      cases spells
      rfl
    · next nonzero =>
      rw [if_neg nonzero]
      split at spells
      · next whole =>
        rw [if_pos whole]
        split at spells
        · next d known =>
          cases spells
          obtain ⟨t, run, next⟩ := exec_requestOf s known
          rw [run, next]
          rfl
        · exact absurd (Option.some.inj spells).symm other
      · exact absurd (Option.some.inj spells).symm other

theorem State.refusedWindow_eq (n : Nat) (why : Status) :
    s.refusedWindow n why = { s with port := (
      if s.resetLine then { s.port with ldo := List.replicate n 0 }
      else match s.port.reply with
        | some r =>
          { s.port with ldo := (r.bytes.take 1 ++ List.replicate n 0).take n, reply := some { r with overrun := true } }
        | none => { s.port with ldo := List.replicate n 0, reply := some ⟨why, [], false⟩ }) } := by
  unfold State.refusedWindow
  split
  · rfl
  · cases reply : s.port.reply with
    | none => rfl
    | some r => simp [State.overrun, State.setLdo, State.setReply, requestLdo, reply]

theorem frameWhole_iff (bytes : List Byte) :
    frameWhole bytes = true ↔
      3 ≤ bytes.length ∧ bytes.length = 3 + (bytes.getD 1 0).toNat ∧ (bytes.map BitVec.toNat).sum % 256 = 0 := by
  rw [frameWhole, Bool.and_eq_true, Bool.and_eq_true, decide_eq_true_iff, beq_iff_eq, beq_iff_eq,
    byteSum_eq_zero_iff, and_assoc]

/-- R187: a window that spells no other command is refused by its frame's check, or by its code. -/
theorem State.window_refused {bytes : List Byte} (spells : decodeWindowBytes bytes = some (.requestWindow bytes)) :
    s.window bytes = s.refusedWindow bytes.length (if frameWhole bytes then .refusedCode else .refusedCheck) := by
  cases bytes with
  | nil => cases spells
  | cons first rest =>
    simp only [decodeWindowBytes] at spells
    rw [State.window]
    split at spells
    · cases spells
    · next nonzero =>
      rw [if_neg nonzero]
      split at spells
      · next whole =>
        rw [if_pos whole, if_pos whole]
        split at spells
        · next d known => exact absurd (known.trans spells) (requestOf_ne_requestWindow _ _ _)
        · next unknown => rw [requestByCode_unknown s unknown]; rfl
      · next broken => rw [if_neg broken, if_neg broken]

end Windows

theorem bodyLength_eq (code : Nat) : bodyLength code = [0, 0, 0, 0, 1, 0, 1, 1, 14, 0, 0].getD code 0 := by
  by_cases small : code ≤ 10
  · interval_cases code <;> rfl
  · rw [List.getD_eq_default _ _ (by simp; omega)]
    unfold bodyLength
    split <;> omega

theorem byte_eq_iff (b : Byte) {n : Nat} (small : n < 256) : b = BitVec.ofNat 8 n ↔ b.toNat = n := by
  rw [← BitVec.toNat_inj, BitVec.toNat_ofNat, Nat.mod_eq_of_lt small]

/-- R189: the judgements as a list, the first that fails deciding. -/
theorem State.refusal_eq (s : State) (code : Byte) (body : List Byte) :
    s.refusal code.toNat body =
      ([(decide (body.length ≠ [0, 0, 0, 0, 1, 0, 1, 1, 14, 0, 0].getD code.toNat 0), Status.refusedArg),
        (decide (¬ ((code = 6 ∨ code = 7 ∨ code = 8 → s.membership.state = .listen ∨ s.membership.state = .syncing ∨
            s.membership.state = .member ∨ s.membership.state = .suspect) ∧
          (code = 9 → s.membership.state = .member) ∧ (code = 10 → s.membership.state = .left))), .refusedState),
        (decide (((code = 6 ∨ code = 7 ∨ code = 8) ∨ code = 9) ∧ (s.queue.any fun d => d.kind = .bye) = true),
          .refusedState),
        (decide (code = 4 ∧ 1 < (body.getD 0 0).toNat ∨ (code = 6 ∨ code = 7 ∨ code = 8) ∧ 3 < (body.getD 0 0).toNat),
          .refusedArg)].find? Prod.fst).map Prod.snd := by
  have is (n : Nat) (small : n < 256) : code = BitVec.ofNat 8 n ↔ code.toNat = n := byte_eq_iff code small
  simp only [firstFailure_cons, List.find?_nil, Option.map_none]
  refine if_congr ?length rfl (if_congr ?state rfl (if_congr ?bye rfl (if_congr ?args rfl rfl)))
  case length => rw [bodyLength_eq]
  case state =>
    rw [← Bool.not_eq_true, stateAllows_iff]
    simp only [← is _ (by decide : 6 < 256), ← is _ (by decide : 7 < 256), ← is _ (by decide : 8 < 256),
      ← is _ (by decide : 9 < 256), ← is _ (by decide : 10 < 256)]
    rfl
  case bye =>
    rw [s.byeForbids_iff]
    refine and_congr ?_ Iff.rfl
    have range : 6 ≤ code.toNat ∧ code.toNat ≤ 9 ↔
        (code.toNat = 6 ∨ code.toNat = 7 ∨ code.toNat = 8) ∨ code.toNat = 9 := by omega
    rw [range]
    simp only [← is _ (by decide : 6 < 256), ← is _ (by decide : 7 < 256), ← is _ (by decide : 8 < 256),
      ← is _ (by decide : 9 < 256)]
    rfl
  case args =>
    rw [argsInRange_iff]
    simp only [← is _ (by decide : 6 < 256), ← is _ (by decide : 7 < 256), ← is _ (by decide : 8 < 256),
      ← is _ (by decide : 4 < 256)]
    rfl

/-- Settles O47: a window is its command or a refusal; a request's refusal is the first of its judgements that fails. -/
theorem refusedAndLostRequests : Obligations.RefusedAndLostRequests := by
  refine ⟨fun s bytes => ⟨fun c spells other => exec_window_of_spelled s spells other, fun spells => ?_⟩,
    fun s c code body is notReset => ?_⟩
  · refine congrArg Host.Outcome.next ?_
    have status : (if frameWhole bytes then Status.refusedCode else .refusedCheck) = _ :=
      if_congr (frameWhole_iff bytes) rfl rfl
    exact (s.window_refused spells).trans ((congrArg (s.refusedWindow _) status).trans (s.refusedWindow_eq _ _))
  · obtain ⟨run, runs⟩ := exec_request is notReset
    refine ⟨fun asserted => ?_, fun released r waits => ?_, fun released empty why refused => ?_⟩
    · rw [runs, s.request_asserted asserted]
    · rw [runs, s.request_lost released waits]
    · rw [runs, s.request_judged released empty]
      rw [show s.refusal code.toNat body = some why from Eq.trans (s.refusal_eq code body) refused]

/-- A reply written behind a notice, whatever the window shifted out before. -/
theorem State.deposit_answered (s : State) (x : Notice) (n : Nat) (st : Status) (body : List Byte) :
    ((s.setLdo (List.replicate n 0)).deposit x).replyWith st body = (s.deposit x).answered n st body := by
  by_cases few : s.port.notices.length < 8
  · simp only [State.deposit, State.setLdo, few, if_true]
    rfl
  · simp only [State.deposit, State.setLdo, few, if_false]
    rfl

/-- R72, R75, R200: past the judgements of LEAVE and REJOIN. -/
theorem refusal_of_asks {s : State} {code : Nat} {body : List Byte} (sized : body.length = bodyLength code)
    (allows : stateAllows s.membership.state code = true) (noBye : s.byeForbids code = false)
    (inRange : argsInRange code body = true) : s.refusal code body = none := by
  simp [State.refusal, sized, allows, noBye, inRange]

/-- Settles O52: the two requests run; a RESET with a body is asserted away, lost or refused. -/
theorem leaveRejoinAndRefusedReset : Obligations.LeaveRejoinAndRefusedReset := by
  refine ⟨fun s asks => ⟨fun member noBye => ?_, fun left => ?_⟩, fun s body nonempty => ?_⟩
  · have noQueue : s.queues .bye = false := by
      simpa [State.queues, bye_place] using noBye
    have passes : s.refusal 9 [] = none :=
      refusal_of_asks rfl (by simp [stateAllows, member]) (by rw [Bool.eq_false_iff]; simp [State.byeForbids_iff, noBye]) rfl
    refine congrArg Host.Outcome.next ((s.request_runs asks passes).trans ?_)
    rw [State.runLeave, State.enqueue, if_neg]
    · rfl
    · exact Bool.eq_false_iff.1 noQueue
  · have passes : s.refusal 10 [] = none := refusal_of_asks rfl (by simp [stateAllows, left]) rfl rfl
    refine congrArg Host.Outcome.next ((s.request_runs asks passes).trans ?_)
    set u : State := (s.clearPlan.setState .listen).startSilence with u_is
    have deposited : u.deposit (.state .listen .rejoin) = { u with port := (s.deposit (.state .listen .rejoin)).port } := by
      rw [State.deposit_eq, State.deposit_port (s := u) (t := s) rfl]
    refine (u.deposit_answered (.state .listen .rejoin) 3 .done []).trans ?_
    rw [deposited]
    rfl
  · refine congrArg Host.Outcome.next ?_
    unfold State.resetRequest
    simp only [if_neg nonempty]
    split
    · rfl
    · cases reply : s.port.reply with
      | none => rfl
      | some r => simp [State.overrun, State.setLdo, State.setReply, requestLdo, reply]

end Sys2Proof.Machine
end

section
set_option Elab.async false
/-! The replies of STATUS, TABLE, ROSTER, COUNTERS and NOTICE (R192 to R196, section 11.5). -/

namespace Sys2Proof.Machine

section Replies

variable (s : State)

/-- A request whose code every state allows, with an empty body. -/
theorem State.reads_run {code : Nat} {run : State → State} (asks : s.asks = true)
    (few : code = 1 ∨ code = 2 ∨ code = 3 ∨ code = 5) :
    s.request code [] run = run (s.setLdo (List.replicate 3 0)) := by
  refine s.request_runs asks ?_
  rcases few with rfl | rfl | rfl | rfl <;> rfl

/-- The mute byte and the state byte. -/
theorem stationBytes_eq (st : StationState) :
    [st.code, st.muteCode] = match st with
      | .strap => [0, 0]
      | .listen => [1, 0]
      | .syncing => [2, 0]
      | .member => [3, 0]
      | .suspect => [4, 0]
      | .left => [5, 0]
      | .muted .strap => [6, 1]
      | .muted .duplicate => [6, 2]
      | .muted .collision => [6, 3]
      | .muted .params => [6, 4] := by
  cases st with
  | muted c => cases c <;> rfl
  | _ => rfl

theorem statusByte_eq (sl : Slot) :
    sl.statusByte = BitVec.ofNat 8 ((match sl.state with
        | .off => 0
        | .wanted => 1
        | .proposed => 2
        | .waiting .overlap => 3 + 8
        | .waiting .full => 3 + 16
        | .active => 4
        | .dropping => 5) + (if sl.startOn then 64 else 0) + (if sl.offAfter then 128 else 0)) := by
  have mark : ∀ (b : Bool) (k : Nat), (if b then k else 0) = k * b.toNat := fun b k => by cases b <;> simp
  rw [Slot.statusByte, mark, mark]
  congr 3
  cases sl.state with
  | waiting c => cases c <;> rfl
  | _ => rfl

/-- The four bytes of a byte count. -/
theorem countBytes_eq (n : Nat) :
    wordBytes (BitVec.ofNat 16 (n % 65536)) ++ wordBytes (BitVec.ofNat 16 (n / 65536)) =
      [BitVec.ofNat 8 n, BitVec.ofNat 8 (n / 256), BitVec.ofNat 8 (n / 65536), BitVec.ofNat 8 (n / 16777216)] := by
  simp only [wordBytes_ofNat, List.cons_append, List.nil_append, List.cons.injEq, and_true, ← BitVec.toNat_inj,
    BitVec.toNat_ofNat]
  omega

theorem State.statusBody_eq :
    s.statusBody =
      (match s.membership.state with
        | .strap => [0, 0]
        | .listen => [1, 0]
        | .syncing => [2, 0]
        | .member => [3, 0]
        | .suspect => [4, 0]
        | .left => [5, 0]
        | .muted .strap => [6, 1]
        | .muted .duplicate => [6, 2]
        | .muted .collision => [6, 3]
        | .muted .params => [6, 4]) ++
      [BitVec.ofNat 8 s.own.val] ++ wordBytes s.frame.number ++
      [(match s.link.lastSender with
        | some x => BitVec.ofNat 8 x.val
        | none => 0xFF), BitVec.ofNat 8 s.claims.table.length, BitVec.ofNat 8 s.store.length] ++
      (wordBytes (BitVec.ofNat 16 (storeBytes s.store % 65536)) ++ wordBytes
        (BitVec.ofNat 16 (storeBytes s.store / 65536))) ++
      [BitVec.ofNat 8 s.queue.length, (s.slotAt 0).statusByte, (s.slotAt 1).statusByte, (s.slotAt 2).statusByte,
        (s.slotAt 3).statusByte, BitVec.ofNat 8 s.recovery.attempts, BitVec.ofNat 8 s.strap.failed, s.strap.detail.code,
        s.strap.cause.code, s.strap.resetCount, BitVec.ofNat 8 s.port.notices.length, s.port.noticesLost] := by
  rw [← stationBytes_eq]
  simp only [State.statusBody, List.append_assoc]
  rfl

end Replies

/-- Settles O48: STATUS runs in every state, and its body is section 11.5's layout part by part. -/
theorem statusReply : Obligations.StatusReply := by
  intro s asks
  refine congrArg Host.Outcome.next ((s.reads_run asks (.inl rfl)).trans ?_)
  have body : (s.setLdo (List.replicate 3 0)).statusBody = s.statusBody := rfl
  rw [State.runStatus, body, s.statusBody_eq, countBytes_eq]
  simp only [statusByte_eq]
  refine congrArg (s.answered 3 .done) ?_
  have detail : s.strap.detail.code = match s.strap.detail with
      | .none => 0
      | .noAnswer => 1
      | .tag => 2
      | .checksum => 3
      | .sensorKind => 4
      | .helloInterval => 5
      | .rosterTimeout => 6
      | .divider => 7
      | .frameTimeout => 8
      | .silenceWindow => 9
      | .compositeW => 10
      | .compositeH => 11 := by cases s.strap.detail <;> rfl
  have cause : s.strap.cause.code = match s.strap.cause with
      | .power => 1
      | .line => 2
      | .localPort => 3 := by cases s.strap.cause <;> rfl
  rw [detail, cause]
  rfl

theorem slotCode_eq (st : SlotState) :
    BitVec.ofNat 8 st.code = match st with
      | .off => 0
      | .wanted => 1
      | .proposed => 2
      | .waiting _ => 3
      | .active => 4
      | .dropping => 5 := by
  cases st <;> rfl

theorem wordBytes_eq (w : Word) : wordBytes w = [BitVec.ofNat 8 (w.toNat % 256), BitVec.ofNat 8 (w.toNat / 256)] := by
  rw [← wordBytes_ofNat, BitVec.ofNat_toNat, BitVec.setWidth_eq]

/-- R195: with clear flag 0 the counters stay. -/
theorem State.runCounters_zero (s : State) :
    s.runCounters [0] = s.replyWith .done (s.port.counters.bytes ++ [s.port.noticesLost]) := by
  rw [State.runCounters, if_neg (by decide)]

theorem State.runCounters_one (s : State) :
    s.runCounters [1] =
      let t := s.replyWith .done (s.port.counters.bytes ++ [s.port.noticesLost])
      { t with port := { t.port with counters := Counters.zero, noticesLost := 0 } } := by
  rw [State.runCounters, if_pos (by decide)]

theorem Counters.bytes_eq (c : Counters) :
    c.bytes = [c.headerFixed, c.headerBad, c.oversize, c.aborted, c.payloadBad, c.collisions,
      c.unknownKind, c.lag, c.lateTile, c.staleClose, c.seqGap, c.digestMismatch, c.paramsMismatch, c.dumpsSent,
      c.dumpsInstalled, c.queryUnanswered, c.tilesCut, c.linesDropped, c.rowsMissing].flatMap wordBytes := by
  rw [List.flatMap_eq_foldl]
  rfl

/-- Settles O49: each body is its layout record by record; COUNTERS and NOTICE then change the port. -/
theorem tableRosterCountersAndNotice : Obligations.TableRosterCountersAndNotice := by
  have mark : ∀ (b : Bool) (k : Nat), (if b then k else 0) = k * b.toNat := fun b k => by cases b <;> simp
  refine ⟨fun s asks ages => ⟨?_, ?_⟩, fun s asks => ⟨fun flag small => ?_, ?_, ?_⟩⟩
  · refine congrArg Host.Outcome.next ((s.reads_run asks (.inr (.inl rfl))).trans ?_)
    refine congrArg (s.answered 3 .done) (congrArg (List.cons _) ?_)
    refine List.flatMap_congr fun e _ => ?_
    have outstanding : (if e.key ∈ s.frame.outstanding then 128 else 0) = 128 * (s.isOutstanding e.key).toNat := by
      rw [← mark]
      exact if_congr (by simp [State.isOutstanding]) rfl rfl
    rw [outstanding]
    simp [Entry.record, Region.bytes]
    rfl
  · refine congrArg Host.Outcome.next ((s.reads_run asks (.inr (.inr (.inl rfl)))).trans ?_)
    refine congrArg (s.answered 3 .done) ?_
    refine List.flatMap_congr fun i _ => ?_
    show [BitVec.ofNat 8 ((s.rosterAt i).age % 16 + 64 * (s.rosterAt i).heard.toNat + 128 *
      (s.rosterAt i).present.toNat), _] = _
    rw [Nat.mod_eq_of_lt (ages i), ← mark, ← mark]
    rfl
  · have passes : s.refusal 4 [flag] = none := refusal_of_asks rfl rfl rfl (by simpa [argsInRange] using small)
    refine congrArg Host.Outcome.next ((s.request_runs asks passes).trans ?_)
    have bit : flag = 0 ∨ flag = 1 := by
      simp only [← BitVec.toNat_inj]
      show flag.toNat = 0 ∨ flag.toNat = 1
      omega
    rcases bit with rfl | rfl
    · rw [State.runCounters_zero, if_pos rfl, Counters.bytes_eq]
      rfl
    · rw [State.runCounters_one, if_neg (by decide), Counters.bytes_eq]
      rfl
  · refine congrArg Host.Outcome.next ((s.reads_run asks (.inr (.inr (.inr rfl)))).trans ?_)
    have waiting : (s.setLdo (List.replicate 3 0)).port.notices = s.port.notices := rfl
    rw [State.runNotice, waiting]
    cases s.port.notices with
    | nil => rfl
    | cons oldest rest =>
      refine congrArg (fun body => State.answered { s with port := { s.port with notices := rest } } 3 .done body) ?_
      cases oldest with
      | slot n st why => exact congrArg (fun b => [1, BitVec.ofNat 8 n.val, b, why.code]) (slotCode_eq st)
      | cut n f => exact congrArg (fun l => [2, BitVec.ofNat 8 n.val] ++ l) (wordBytes_eq f)
      | state st why => rfl
      | recovery r => cases r <;> rfl
  · simp [State.attn]

end Sys2Proof.Machine
end

section
set_option Elab.async false
/-! SLOT-OFF, SLOT-ON and SLOT-SET past their judgements (R27 to R29, R197). -/

namespace Sys2Proof.Machine

section SlotRequests

variable {s : State} {n : SlotNo}

theorem slotOfBody_eq (n : SlotNo) (rest : List Byte) : slotOfBody (BitVec.ofNat 8 n.val :: rest) = n := by
  show Fin.ofNat 4 (BitVec.ofNat 8 n.val).toNat = n
  rw [byte_toNat_slot]
  exact Fin.ofNat_val_eq_self n

theorem bodySlot_le (n : SlotNo) (rest : List Byte) : bodySlot (BitVec.ofNat 8 n.val :: rest) ≤ 3 := by
  show (BitVec.ofNat 8 n.val).toNat ≤ 3
  rw [byte_toNat_slot]
  omega

/-- R189, R190: a slot request of its length past the judgements. -/
theorem State.slotRequest_runs {code : Nat} {rest : List Byte} {run : State → State} (asks : s.asks = true)
    (takes : s.takesSlots = true) (slots : code = 6 ∨ code = 7 ∨ code = 8) (sized : rest.length + 1 = bodyLength code) :
    s.request code (BitVec.ofNat 8 n.val :: rest) run = run (s.setLdo (List.replicate (rest.length + 1 + 3) 0)) := by
  obtain ⟨allows, noBye⟩ : stateAllows s.membership.state 6 = true ∧ (s.queue.any fun c => c.kind == .bye) = false := by
    simpa [State.takesSlots] using takes
  refine s.request_runs asks (refusal_of_asks sized ?_ ?_ ?_)
  · rcases slots with rfl | rfl | rfl <;> exact allows
  · rw [Bool.eq_false_iff, Ne, State.byeForbids_iff]
    rintro ⟨-, bye⟩
    simp only [List.any_eq_false, beq_iff_eq, List.any_eq_true, decide_eq_true_eq] at noBye bye
    obtain ⟨c, mem, is⟩ := bye
    exact noBye c mem is
  · have le := bodySlot_le n rest
    rcases slots with rfl | rfl | rfl <;> exact decide_eq_true le

theorem State.setSlot_eq_put (n : SlotNo) (sl : Slot) :
    s.setSlot n sl = { s with claims := { s.claims with slots := tab4 fun m => if m = n then sl else s.slotAt m } } := by
  rw [← (s.setSlot n sl).slots_eq fun m => s.setSlot_slotAt n m sl]
  rfl

theorem State.setSlot_setSlot (n : SlotNo) (a b : Slot) : (s.setSlot n a).setSlot n b = s.setSlot n b := by
  simp [State.setSlot]

theorem State.settleAttempts_setLdo (bytes : List Byte) :
    (s.setLdo bytes).settleAttempts = s.settleAttempts.setLdo bytes := by
  rw [State.settleAttempts_eq, State.settleAttempts_eq]
  rfl

theorem State.enqueue_setLdo (bytes : List Byte) (k : QueueKind) :
    (s.setLdo bytes).enqueue k = (s.enqueue k).setLdo bytes := by
  unfold State.enqueue
  exact (apply_ite (fun t : State => t.setLdo bytes)
    (s.queues k = true) s { s with queue := s.queue ++ [⟨k, none, false⟩] }).symm

theorem State.claimIfReady_setLdo (bytes : List Byte) :
    (s.setLdo bytes).claimIfReady n = (s.claimIfReady n).setLdo bytes := by
  have queued := State.enqueue_setLdo (s := s.setSlotState n .proposed) bytes (.claim n)
  unfold State.claimIfReady
  refine (if_congr Iff.rfl queued rfl).trans ?_
  exact (apply_ite (fun t : State => t.setLdo bytes) _ ((s.setSlotState n .proposed).enqueue (.claim n)) s).symm

/-- R27: SLOT-OFF by the slot's state. -/
theorem State.slotOff_eq (s : State) (n : SlotNo) :
    s.slotOff n = match (s.slotAt n).state with
      | .off => s.setSlot n { s.slotAt n with startOn := false }
      | .wanted => s.setSlot n { s.slotAt n with state := .off }
      | .waiting _ => s.setSlot n { s.slotAt n with state := .off }
      | .proposed =>
        if s.queue.any fun c => c.kind = .claim n ∧ c.inFlight = true then s.setSlot n { s.slotAt n with offAfter := true }
        else State.settleAttempts
          ((s.withdraw fun k => k == .claim n).setSlot n { s.slotAt n with state := .off, offAfter := false })
      | .active =>
        State.setSlot { s with queue := if s.membership.state = .member then (s.enqueue (.release n)).queue else s.queue } n
          { s.slotAt n with state := .dropping }
      | .dropping => s := by
  have inFlight : (s.queue.any fun c => c.kind = .claim n ∧ c.inFlight = true) = s.claimInFlight n := by
    simp [State.claimInFlight, beq_eq_decide]
  have released : ∀ t : State, t = { s with claims := t.claims } →
      (if t.isMember then t.enqueue (.release n) else t) =
        { t with queue := if s.membership.state = .member then (s.enqueue (.release n)).queue else s.queue } := by
    rintro t is
    rw [is]
    by_cases member : s.membership.state = .member
    · rw [if_pos (by simp [State.isMember, member]), if_pos member]
      unfold State.enqueue
      by_cases queues : s.queues (.release n) = true
      · rw [if_pos (by exact queues), if_pos queues]
      · rw [if_neg (by exact queues), if_neg queues]
    · rw [if_neg (by simp [State.isMember, member]), if_neg member]
  unfold State.slotOff
  simp only [inFlight]
  cases (s.slotAt n).state with
  | active => exact released _ rfl
  | _ => rfl

/-- SLOT-OFF does not see the bytes shifted out. -/
theorem State.slotOff_setLdo (bytes : List Byte) : (s.setLdo bytes).slotOff n = (s.slotOff n).setLdo bytes := by
  rw [State.slotOff_eq, State.slotOff_eq]
  have same : (s.setLdo bytes).slotAt n = s.slotAt n := rfl
  rw [same]
  cases (s.slotAt n).state with
  | proposed =>
    have link : (s.setLdo bytes).queue = s.queue := rfl
    simp only [link]
    split
    · rfl
    · exact State.settleAttempts_setLdo (s := (s.withdraw fun k => k == .claim n).setSlot n _) bytes
  | active =>
    simp only [State.enqueue_setLdo]
    rfl
  | _ => rfl

theorem State.replyWith_answered (k : Nat) (st : Status) (body : List Byte) :
    (s.setLdo (List.replicate k 0)).replyWith st body = s.answered k st body := rfl

end SlotRequests

/-- R20: the CLAIM of a WANTED slot joins at once at a MEMBER whose own entry is PRESENT or whose HELLO waits. -/
theorem State.claimIfReady_wanted (s : State) (n : SlotNo) (sl : Slot) (wanted : sl.state = .wanted) :
    (s.setSlot n sl).claimIfReady n =
      if s.membership.state = .member ∧
          (s.present s.own = true ∨ s.queue.any (fun d => d.kind = .hello ∧ d.inFlight = false) = true) then
        State.setSlot { s with queue := (s.enqueue (.claim n)).queue } n { sl with state := .proposed }
      else s.setSlot n sl := by
  have ready : ((((s.setSlot n sl).slotAt n).state == .wanted && (s.setSlot n sl).isMember &&
      ((s.setSlot n sl).present (s.setSlot n sl).own || (s.setSlot n sl).helloWaits)) = true) ↔
      s.membership.state = .member ∧
        (s.present s.own = true ∨ s.queue.any (fun d => d.kind = .hello ∧ d.inFlight = false) = true) := by
    rw [State.setSlot_slotAt_same, wanted]
    have hello : (s.setSlot n sl).helloWaits = s.queue.any fun d => d.kind = .hello ∧ d.inFlight = false := by
      simp [State.helloWaits, beq_eq_decide]
    have present : (s.setSlot n sl).present (s.setSlot n sl).own = s.present s.own := rfl
    rw [hello, present]
    simp [State.isMember]
  unfold State.claimIfReady
  refine if_congr ready ?_ rfl
  rw [State.setSlotState, State.setSlot_slotAt_same, State.setSlot_setSlot]
  unfold State.enqueue
  by_cases queues : s.queues (.claim n) = true
  · rw [if_pos (by exact queues), if_pos queues]
  · rw [if_neg (by exact queues), if_neg queues]
    rfl

/-- R197: what SLOT-SET reads from its body. -/
theorem setBody_fields (slot format : Byte) (r : Region) (c : Crop) :
    ∃ rest, [slot, format] ++ wordBytes r.row0 ++ wordBytes r.rows ++ wordBytes r.col0 ++ wordBytes r.cols ++
        wordBytes c.x ++ wordBytes c.y = slot :: rest ∧ rest.length = 13 ∧
      setFormat (slot :: rest) = Format.ofBits (format.toNat % 4) ∧ regionAt (slot :: rest) 2 = r ∧ setCrop
        (slot :: rest) = c := by
  refine ⟨_, rfl, rfl, ?_, ?_, ?_⟩
  · show Format.ofBits format.toNat = _
    simp [Format.ofBits]
  · exact congr (congr (congrArg₂ Region.mk (wordAt_wordBytes _ []) (wordAt_wordBytes _ [])) (wordAt_wordBytes _ []))
      (wordAt_wordBytes _ [])
  · exact congrArg₂ Crop.mk (wordAt_wordBytes _ []) (wordAt_wordBytes _ [])

/-- Settles O51: the three requests run past their judgements, by the slot's state. -/
theorem slotRequests : Obligations.SlotRequests := by
  refine ⟨fun s n asks takes => ?_, fun s n format r c asks takes => ⟨?_, ?_⟩⟩
  · refine congrArg Host.Outcome.next ((State.slotRequest_runs asks takes (.inl rfl) rfl).trans ?_)
    rw [State.runSlotOff, slotOfBody_eq, State.slotOff_setLdo, State.replyWith_answered, State.slotOff_eq]
    refine congrArg (State.answered · 4 .done []) ?_
    simp only [State.setSlot_eq_put]
    cases (s.slotAt n).state with
    | proposed => rfl
    | waiting c => rfl
    | _ => rfl
  · refine congrArg Host.Outcome.next ((State.slotRequest_runs asks takes (.inr (.inl rfl)) rfl).trans ?_)
    rw [State.runSlotOn, slotOfBody_eq]
    have same : (s.setLdo (List.replicate 4 0)).slotAt n = s.slotAt n := rfl
    simp only [List.length_nil, Nat.zero_add, Nat.reduceAdd, same]
    by_cases off : (s.slotAt n).state = .off
    · rw [if_neg (by simp [off]), if_neg (not_not_intro off)]
      by_cases passes : localChecks s.strap.words n (s.slotAt n).format (s.slotAt n).region (s.slotAt n).crop = true
      · rw [if_pos (by exact passes), if_neg (by simp [passes])]
        have moved := State.claimIfReady_setLdo
          (s := s.setSlot n { s.slotAt n with state := .wanted, startOn := false }) (n := n)
          (List.replicate 4 0)
        refine (congrArg (State.replyWith · .done []) moved).trans ?_
        rw [State.replyWith_answered, State.claimIfReady_wanted _ _ _ rfl]
        simp only [State.setSlot_eq_put]
        exact apply_ite (State.answered · 4 .done []) _ _ _
      · rw [if_neg (by exact passes), if_pos (by simpa using passes)]
        rfl
    · rw [if_pos (by simpa using off), if_pos off]
      rfl
  · obtain ⟨rest, body, sized, isFormat, isRegion, isCrop⟩ := setBody_fields (BitVec.ofNat 8 n.val) format r c
    rw [body]
    refine congrArg Host.Outcome.next ((State.slotRequest_runs asks takes (.inr (.inr rfl)) (by rw [sized]; rfl)).trans ?_)
    rw [State.runSlotSet, slotOfBody_eq, isFormat, isRegion, isCrop, sized]
    have same : (s.setLdo (List.replicate 17 0)).slotAt n = s.slotAt n := rfl
    simp only [Nat.reduceAdd, same]
    by_cases off : (s.slotAt n).state = .off
    · rw [if_neg (by simp [off]), if_neg (not_not_intro off), State.setSlot_eq_put]
      rfl
    · rw [if_pos (by simpa using off), if_pos off]
      rfl

end Sys2Proof.Machine
end

section
set_option Elab.async false
/-! The timers' expiries (R46, R47, R59, R89, R97, R98) and the sensor port (R132 to R144). -/

namespace Sys2Proof.Machine

section Timers

variable {s : State}

theorem State.queues_close (f : Word) : s.queues (.close f) = s.queue.any fun c => c.kind.isClose := by
  rw [State.queues]
  congr 1
  funext c
  cases c.kind <;> simp [QueueKind.place, QueueKind.isClose, Fin.ext_iff] <;> omega

/-- Settles O40: the two expiries by the state they find. -/
theorem silenceAndFrameTimerExpiry : Obligations.SilenceAndFrameTimerExpiry := by
  refine ⟨fun s => congrArg Host.Outcome.next ?_, fun s => congrArg Host.Outcome.next ?_⟩
  · refine if_congr (by simp) ?_ rfl
    rw [State.found, State.deposit_eq]
    refine congrArg State.memberCells ?_
    rw [State.deposit_port (s := s) (by rfl)]
  · rw [← State.queues_close s.frame.number]
    cases runs : s.frame.timerRunning
    · rw [if_neg (by simp), if_neg (by simp)]
      apply State.ext_fields
      case frame =>
        show s.frame = { s.frame with timerRunning := false }
        rw [← runs]
      all_goals rfl
    · rw [if_pos rfl]
      by_cases member : s.membership.state = .member
      · have isMember : (s.setFrameTimer false).isMember = true := by simp [State.isMember, State.setFrameTimer, member]
        simp only [isMember, if_true, member]
        unfold State.enqueue
        by_cases queued : s.queues (.close s.frame.number) = true
        · rw [if_pos (by exact queued), if_neg (by simp [queued])]
          rfl
        · rw [if_neg (by exact queued), if_pos ⟨trivial, trivial, queued⟩]
          rfl
      · rw [if_neg (by simp [State.isMember, State.setFrameTimer, member]), if_neg (by simp [member])]
        rfl

theorem State.abandonNotices_eq (s : State) :
    s.abandonNotices = (s.depositAll [.state .member .fallback, .recovery .abandoned]).count fun c =>
      { c with queryUnanswered := satAdd c.queryUnanswered 1 } := rfl

/-- Settles O41: the expiry by its attempt count, and beyond three by the station's state. -/
theorem queryTimerExpiry : Obligations.QueryTimerExpiry := by
  intro s abandoned
  have expires (running : s.recovery.timerRunning = true) :
      exec .queryTimerExpiry s = .next s.queryExpired.settleAttempts := congrArg Host.Outcome.next (if_pos running)
  refine ⟨fun stopped => congrArg Host.Outcome.next (if_neg (by simp [stopped])), fun running few => ?_,
    fun running many suspect => ?_, fun running many syncing => ?_⟩
  · rw [expires running, State.queryExpired, if_pos few, State.enqueue, ← State.queues_query]
    cases queries : s.queues .query
    · rw [if_neg (by exact Bool.eq_false_iff.1 queries)]
      rfl
    · rw [if_pos (by exact queries)]
      rfl
  · rw [expires running, State.queryExpired, if_neg (Nat.not_lt.2 many), suspect]
    refine congrArg (fun u : State => Host.Outcome.next u.settleAttempts) ?_
    show State.selfTrust _ = _
    rw [State.selfTrust]
    exact State.abandonNotices_eq _
  · rw [expires running, State.queryExpired, if_neg (Nat.not_lt.2 many), syncing]
    refine congrArg (fun u : State => Host.Outcome.next u.settleAttempts) ?_
    show State.syncingFallback _ = _
    rw [State.syncingFallback]
    exact State.abandonNotices_eq _

end Timers

end Sys2Proof.Machine
end

section
set_option Elab.async false
/-! The sensor port (R132 to R144): a pass over the contexts in slot order, as one edit of the contexts, the store and the
rows-missing counter. -/

namespace Sys2Proof.Machine

section Sensor

variable {s : State}

theorem State.contexts_eq {b : SlotNo → Context} (reads : ∀ n, s.contextAt n = b n) : s.capture.contexts = tab4 b := by
  rw [← tab4_eta s.capture.contexts]
  exact congrArg tab4 (funext reads)

theorem State.setContext_eq_put (n : SlotNo) (c : Context) :
    s.setContext n c =
      { s with capture := { s.capture with contexts := tab4 fun m => if m = n then c else s.contextAt m } } := by
  rw [← (s.setContext n c).contexts_eq fun m => s.setContext_contextAt n m c]
  rfl

/-- A pass over the slots builds what one slot after another adds. -/
theorem State.forSlots_builds {f : State → SlotNo → State} (build : List SlotNo → State)
    (step : ∀ done n, n ∉ done → f (build done) n = build (done ++ [n])) : (build []).forSlots f = build slotOrder := by
  have first : f (build []) 0 = build [0] := step [] 0 (by simp)
  have second : f (build [0]) 1 = build [0, 1] := step [0] 1 (by simp)
  have third : f (build [0, 1]) 2 = build [0, 1, 2] := step [0, 1] 2 (by simp)
  have fourth : f (build [0, 1, 2]) 3 = build slotOrder := step [0, 1, 2] 3 (by decide)
  rw [State.forSlots_eq, first, second, third, fourth]

theorem tab4_append {α : Type} (f g : SlotNo → α) (done : List SlotNo) (n : SlotNo) :
    (tab4 fun m => if m ∈ done ++ [n] then f m else g m) =
      tab4 fun m => if m = n then f n else if m ∈ done then f m else g m := by
  refine congrArg tab4 (funext fun m => ?_)
  by_cases same : m = n
  · subst same; simp
  · simp [same]

/-! ### Sensor frames (R137, R142) -/

/-- R137: what a start makes of a context. -/
def begun : Context → Context
  | .armed f => .capturing f 0 0
  | other => other

theorem beginCapture_eq (t : State) (n : SlotNo) : beginCapture t n = t.setContext n (begun (t.contextAt n)) := by
  have same : t.setContext n (t.contextAt n) = t := by simp [State.setContext, State.contextAt]
  unfold beginCapture
  cases is : t.contextAt n with
  | armed f => rfl
  | idle => rw [is] at same; exact same.symm
  | capturing f next missing => rw [is] at same; exact same.symm
  | done f => rw [is] at same; exact same.symm

theorem State.frameStarts_eq : s.frameStarts = { s with capture := ⟨tab4 fun n => begun (s.contextAt n), true, 0⟩ } := by
  let build (done : List SlotNo) : State :=
    { s with capture := ⟨tab4 fun m => if m ∈ done then begun (s.contextAt m) else s.contextAt m, true, 0⟩ }
  have start : build [] = { s with capture := { s.capture with inFrame := true, rowCounter := 0 } } := by
    have contexts : s.capture.contexts = tab4 s.contextAt := State.contexts_eq fun _ => rfl
    simp only [build, List.not_mem_nil, if_false, contexts]
  have all : build slotOrder = { s with capture := ⟨tab4 fun n => begun (s.contextAt n), true, 0⟩ } := by
    have mem : ∀ n : SlotNo, n ∈ slotOrder := by decide
    simp only [build, mem, if_true]
  rw [State.frameStarts, ← start, ← all]
  refine State.forSlots_builds build fun done n fresh => ?_
  have here : (build done).contextAt n = s.contextAt n := by
    simp only [State.contextAt, build]
    exact (tab4_get _ n).trans (if_neg fresh)
  rw [beginCapture_eq, here, State.setContext_eq_put]
  simp only [build, tab4_append]
  congr 4
  funext m
  split
  · rfl
  · exact tab4_get _ m

theorem satAdd_zero (c : Word) : satAdd c 0 = c := by
  have := c.isLt
  rw [satAdd, if_pos (by omega), Nat.add_zero, BitVec.ofNat_toNat, BitVec.setWidth_eq]

theorem satAdd_satAdd (c : Word) (a b : Nat) : satAdd (satAdd c a) b = satAdd c (a + b) := by
  have := c.isLt
  unfold satAdd
  by_cases few : c.toNat + a ≤ 65535
  · have value : (BitVec.ofNat 16 (c.toNat + a)).toNat = c.toNat + a := by
      rw [BitVec.toNat_ofNat]; omega
    rw [if_pos few, value, Nat.add_assoc]
  · rw [if_neg few, if_neg (by omega : ¬c.toNat + (a + b) ≤ 65535)]
    have value : (65535#16 : Word).toNat = 65535 := rfl
    rw [value]
    split
    · next none =>
      obtain rfl : b = 0 := by omega
      rfl
    · rfl

/-! ### A sensor frame's end (R142, R143) -/

/-- The rows that an unfinished tile misses at a frame's end (R142). -/
def State.endMissing (s : State) (n : SlotNo) : Nat :=
  match s.contextAt n, s.ownEntry n with
  | .capturing _ next missed, some e => e.region.rows.toNat - next + missed
  | _, _ => 0

/-- The end marker of an unfinished tile. -/
def State.frameEndMarker (s : State) (n : SlotNo) : Option StoreEntry :=
  match s.contextAt n, s.ownEntry n with
  | .capturing f _ _, some e => some ⟨n, f, e.region.rows.toNat - 1, .endMarker (s.endMissing n), false⟩
  | _, _ => none

def ended : Context → Context
  | .capturing f _ _ => .done f
  | other => other

/-- Every CAPTURING context has a row left (R142, log entry 21). -/
def State.rowsLeft (s : State) : Prop :=
  ∀ n, match s.contextAt n, s.ownEntry n with
    | .capturing _ next _, some e => next < e.region.rows.toNat
    | .capturing _ _ _, none => False
    | _, _ => True

/-- One slot's part of a frame's end. -/
theorem endEarly_eq {t : State} {n : SlotNo} (left : s.rowsLeft) (context : t.contextAt n = s.contextAt n)
    (entry : t.ownEntry n = s.ownEntry n) :
    endEarly t n = { t with
      store := t.store ++ [n].filterMap s.frameEndMarker
      capture := { t.capture with contexts := tab4 fun m => if m = n then ended (s.contextAt n) else t.contextAt m }
      port := { t.port with counters := { t.port.counters with
        rowsMissing := satAdd t.port.counters.rowsMissing (s.endMissing n) } } } := by
  have unchanged : ∀ c, t.contextAt n = c →
      t = { t with
        store := t.store ++ []
        capture := { t.capture with contexts := tab4 fun m => if m = n then c else t.contextAt m }
        port := { t.port with counters := { t.port.counters with
          rowsMissing := satAdd t.port.counters.rowsMissing 0 } } } := by
    rintro c rfl
    have contexts : (tab4 fun m => if m = n then t.contextAt n else t.contextAt m) = t.capture.contexts :=
      (State.contexts_eq fun m => by split <;> simp_all).symm
    rw [contexts, satAdd_zero, List.append_nil]
  have rows := left n
  unfold endEarly
  simp only [List.filterMap_cons, List.filterMap_nil, State.frameEndMarker, State.endMissing]
  rw [context, entry]
  cases is : s.contextAt n with
  | capturing f next missed =>
    cases own : s.ownEntry n with
    | none => simp [is, own] at rows
    | some e =>
      have below : next < e.region.rows.toNat := by simpa [is, own] using rows
      have early : earlyMissing e.region.rows.toNat next missed = e.region.rows.toNat - next + missed :=
        if_pos (Nat.le_of_lt below)
      have last : lastTileRow e.region.rows.toNat = e.region.rows.toNat - 1 := if_neg (by omega)
      simp only [early, last]
      rw [State.endTile, State.setContext_eq_put]
      rfl
  | _ => exact unchanged _ (context.trans is)

theorem State.frameEnds_eq (left : s.rowsLeft) :
    s.frameEnds = { s with
      store := s.store ++ slotOrder.filterMap s.frameEndMarker
      capture := { s.capture with contexts := tab4 fun n => ended (s.contextAt n), inFrame := false }
      port := { s.port with counters := { s.port.counters with
        rowsMissing := satAdd s.port.counters.rowsMissing ((slotOrder.map s.endMissing).sum) } } } := by
  let build (done : List SlotNo) : State := { s with
    store := s.store ++ done.filterMap s.frameEndMarker
    capture := { s.capture with
      contexts := tab4 fun m => if m ∈ done then ended (s.contextAt m) else s.contextAt m, inFrame := false }
    port := { s.port with counters := { s.port.counters with
      rowsMissing := satAdd s.port.counters.rowsMissing ((done.map s.endMissing).sum) } } }
  have start : build [] = { s with capture := { s.capture with inFrame := false } } := by
    have contexts : s.capture.contexts = tab4 s.contextAt := State.contexts_eq fun _ => rfl
    simp only [build, List.not_mem_nil, if_false, contexts, List.filterMap_nil, List.append_nil, List.map_nil, List.sum_nil,
      satAdd_zero]
  have mem : ∀ n : SlotNo, n ∈ slotOrder := by decide
  have all : build slotOrder = { s with
      store := s.store ++ slotOrder.filterMap s.frameEndMarker
      capture := { s.capture with contexts := tab4 fun n => ended (s.contextAt n), inFrame := false }
      port := { s.port with counters := { s.port.counters with
        rowsMissing := satAdd s.port.counters.rowsMissing ((slotOrder.map s.endMissing).sum) } } } := by
    simp only [build, mem, if_true]
  rw [State.frameEnds, ← start, ← all]
  refine State.forSlots_builds build fun done n fresh => ?_
  have reads : ∀ m, (build done).contextAt m = if m ∈ done then ended (s.contextAt m) else s.contextAt m :=
    tab4_get fun m => if m ∈ done then ended (s.contextAt m) else s.contextAt m
  rw [endEarly_eq left ((reads n).trans (if_neg fresh)) rfl]
  simp only [reads]
  simp only [build, tab4_append, List.filterMap_append, List.map_append, List.sum_append, List.append_assoc, satAdd_satAdd,
    List.map_cons, List.map_nil, List.sum_singleton]

/-- Settles O42: a start and an end each work on the four contexts in slot order. -/
theorem sensorFrames : Obligations.SensorFrames := by
  intro s
  refine ⟨fun strap => ⟨?_, ?_⟩, fun active out => ⟨?_, ?_⟩, fun active inFrame left => ?_⟩
  · exact congrArg Host.Outcome.next (if_neg (by simp [State.sensorInUse, strap]))
  · exact congrArg Host.Outcome.next (if_neg (by simp [State.sensorInUse, strap]))
  · exact congrArg Host.Outcome.next (if_neg (by simp [out]))
  · refine congrArg Host.Outcome.next ((if_pos (by simp [State.sensorInUse, active])).trans ?_)
    rw [if_neg (by simp [out]), State.frameStarts_eq]
    rfl
  · intro missing marker total endedState
    have isMissing : missing = s.endMissing := rfl
    have isMarker : marker = s.frameEndMarker := rfl
    have isTotal : total = satAdd s.port.counters.rowsMissing ((slotOrder.map s.endMissing).sum) := by
      simp only [total, isMissing, slotOrder, List.map_cons, List.map_nil, List.sum_cons, List.sum_nil, Nat.add_zero,
        Nat.add_assoc]
    have isEnded : s.frameEnds = endedState := by
      rw [State.frameEnds_eq left, ← isTotal, ← isMarker]
      rfl
    refine ⟨congrArg Host.Outcome.next ((if_pos (by simp [State.sensorInUse, active, inFrame])).trans isEnded), ?_⟩
    refine congrArg Host.Outcome.next ?_
    rw [if_pos (by simp [State.sensorInUse, active]), if_pos inFrame, isEnded,
      if_pos (show endedState.sensorInUse = true by simp [State.sensorInUse, endedState, active]),
      if_neg (show ¬endedState.capture.inFrame = true by simp [endedState])]

/-! ### Sensor lines (R138 to R143) -/

/-- Settles O43: the pass is four servings, and one serving is its context's case. -/
theorem sensorLineIsServed : Obligations.SensorLineIsServed := by
  refine ⟨fun s line => congrArg Host.Outcome.next ?_, fun s row pixels n idle => ?_,
    fun s row pixels n f next missed e l context entry isLocal left => ?_⟩
  · refine if_congr ?_ rfl rfl
    simp [State.sensorInUse, and_assoc]
  · unfold takeLine
    cases is : s.contextAt n with
    | capturing => simp [is] at idle
    | _ => rfl
  · have serve : ∀ u c, State.setContext u n c =
        { u with capture := { u.capture with contexts := tab4 fun m => if m = n then c else u.contextAt m } } := fun u c =>
      State.setContext_eq_put n c
    have last : lastTileRow e.region.rows.toNat = e.region.rows.toNat - 1 := if_neg (by omega)
    unfold takeLine
    simp only [context, entry, isLocal]
    by_cases here : row = l.crop.y.toNat + next
    · rw [if_pos here, if_neg (not_not_intro here), lineRow]
      by_cases fits : l.crop.x.toNat + e.region.cols.toNat ≤ pixels.length
      · simp only [fits, if_true, true_and, State.handleRow, last]
        refine (if_congr (storeTakes_iff _ _) ?_ ?_)
        · split
          · exact serve _ _
          · exact serve _ _
        · split <;> rename_i final
          · rw [show e.region.rows.toNat - 1 = next by omega]
            exact serve _ _
          · exact serve _ _
      · simp only [fits, if_false, false_and, State.handleRow, last]
        split <;> rename_i final
        · rw [show e.region.rows.toNat - 1 = next by omega]
          exact serve _ _
        · exact serve _ _
    · rw [if_neg here, if_pos here]

end Sensor

end Sys2Proof.Machine
end

section
set_option Elab.async false
/-! O37: where the table, the frame number, L and the rank change, and where a transmission starts (R1, R31, R107, R111,
R119, R121). -/

namespace Sys2Proof.Machine

section PlanFields

variable {w : Scope} {s t u : State}

/-- The table, the frame number and L stand as they did. -/
structure State.SamePlan (s t : State) : Prop where
  table : t.claims.table = s.claims.table
  number : t.frame.number = s.frame.number
  lastSender : t.link.lastSender = s.link.lastSender

theorem State.SamePlan.refl (s : State) : s.SamePlan s := ⟨rfl, rfl, rfl⟩

theorem State.SamePlan.trans (h : s.SamePlan t) (g : t.SamePlan u) : s.SamePlan u :=
  ⟨g.table.trans h.table, g.number.trans h.number, g.lastSender.trans h.lastSender⟩

/-- The end of a strap attempt alone computes the rank (R118), apart from a reset. -/
theorem EventIn.samePlan (part : EventIn w s t) (noReset : ¬w.resets) (noRejoin : ¬w.rejoins) (noExpiry : ¬w.expires) :
    s.SamePlan t ∧ (¬w.attempts → t.ladder.rank = s.ladder.rank) := by
  cases part with
  | reset _ _ _ may => exact absurd may noReset
  | rejoin _ may => exact absurd may noRejoin
  | fallsBack _ _ may => exact absurd may noExpiry
  | loads words _ _ may => exact ⟨⟨by simp, by simp, by simp⟩, fun no => absurd may no⟩
  | fails d _ may =>
    refine ⟨?_, fun no => absurd may no⟩
    rcases s.strapFailed_cases d with ⟨-, is⟩ | ⟨-, is⟩ <;> rw [is]
    · exact ⟨rfl, rfl, rfl⟩
    · exact ⟨by simp, by simp, by simp⟩
  | founds => exact ⟨⟨by simp, by simp, by simp⟩, fun _ => by simp⟩
  | selfTrusts => exact ⟨⟨by simp [State.selfTrust], by simp, by simp [State.selfTrust]⟩, fun _ => by simp [State.selfTrust]⟩
  | linkBusy => exact ⟨⟨rfl, rfl, rfl⟩, fun _ => rfl⟩
  | control c => exact ⟨⟨rfl, rfl, rfl⟩, fun _ => rfl⟩
  | tile e => exact ⟨⟨rfl, rfl, rfl⟩, fun _ => rfl⟩
  | closeQueued => exact ⟨⟨by simp, by simp, by simp⟩, fun _ => by simp⟩
  | queryRepeats => exact ⟨⟨by simp, by simp, by simp⟩, fun _ => by simp⟩
  | settles => exact ⟨⟨by simp, by simp, by simp⟩, fun _ => by rw [State.settleAttempts_eq]⟩
  | captureBegins n => exact ⟨⟨by simp, by simp, by simp⟩, fun _ => by simp⟩
  | captureEnds n => exact ⟨⟨by simp, by simp, by simp⟩, fun _ => by simp⟩
  | line row pixels n => exact ⟨⟨by simp, by simp, by simp⟩, fun _ => by simp⟩
  | slotOff n => exact ⟨⟨by simp, by simp, by simp⟩, fun _ => by simp⟩
  | slotOn n => exact ⟨⟨by simp, by simp, by simp⟩, fun _ => by simp⟩
  | leave => exact ⟨⟨by simp, by simp, by simp⟩, fun _ => by simp⟩
  | _ => exact ⟨⟨rfl, rfl, rfl⟩, fun _ => rfl⟩

/-- R172: a command that resets leaves the reset values, with an answer's bytes on LDO. -/
theorem exec_of_reset {c : Instr} (resets : s.resetBy c ≠ none) (next : exec c s = .next t) :
    ∃ cause count line p, t = { s.resetAll cause count line with port := p } := by
  cases c with
  | powerOn line =>
    obtain rfl := Host.Outcome.next.inj next
    exact ⟨_, _, _, _, rfl⟩
  | resetnAsserted =>
    obtain rfl := Host.Outcome.next.inj next
    have released : s.resetLine = false := by
      cases line : s.resetLine
      · rfl
      · simp [State.resetBy, line] at resets
    rw [if_neg (by simp [released])]
    exact ⟨_, _, _, _, rfl⟩
  | reset body =>
    obtain ⟨rfl, released⟩ : body = [] ∧ s.resetLine = false := by simpa [State.resetBy] using resets
    obtain rfl := Host.Outcome.next.inj next
    exact ⟨_, _, _, _, s.resetRequest_nil released⟩
  | requestWindow bytes =>
    obtain ⟨spells, released⟩ : decodeWindowBytes bytes = some (.reset []) ∧ s.resetLine = false := by
      simpa [State.resetBy] using resets
    obtain rfl := Host.Outcome.next.inj next
    exact ⟨_, _, _, _, (s.window_of_reset spells).trans (s.resetRequest_nil released)⟩
  | _ => exact absurd rfl resets

/-- R75, R199: a REJOIN does its own work, and that in LEFT only, or answers alone. -/
theorem request_rejoin_cases (s : State) :
    (∃ p, s.request 10 [] State.runRejoin = { s with port := p }) ∨
    (s.membership.state = .left ∧ ∃ p, s.request 10 [] State.runRejoin =
      { (s.clearPlan.setState .listen).startSilence with port := p }) := by
  by_cases asserted : s.resetLine = true
  · exact .inl ⟨_, s.request_asserted asserted⟩
  · have released := Bool.eq_false_iff.2 asserted
    cases reply : s.port.reply with
    | some r => exact .inl ⟨_, s.request_lost released reply⟩
    | none =>
      have judged := s.request_judged (code := 10) (body := []) (run := State.runRejoin) released reply
      cases refused : s.refusal 10 [] with
      | some why => exact .inl ⟨_, judged.trans (by rw [refused]; rfl)⟩
      | none =>
        refine .inr ⟨?_, (((s.clearPlan.setState .listen).startSilence.deposit
          (.state .listen .rejoin)).answered 3 .done []).port, ?_⟩
        · by_contra other
          simp [State.refusal, bodyLength, stateAllows, other] at refused
        · rw [refused] at judged
          exact (judged.trans ((s.clearPlan.setState .listen).startSilence.deposit_answered (.state .listen .rejoin) 3
            .done [])).trans (by rw [State.deposit_eq]; rfl)

/-- A command that spells a REJOIN is judged as one. -/
theorem exec_rejoins {c : Instr} (rejoins : (scopeOf c s).rejoins) : exec c s = .next (s.request 10 [] State.runRejoin) := by
  rcases rejoins with rfl | ⟨bytes, rfl, spells⟩
  · rfl
  · exact exec_window_of_spelled s spells (by simp)

/-! ### Where a transmission starts -/

theorem EventIn.transmitter_idle (part : EventIn w s t) (noStart : ¬w.starts) (idle : s.link.transmitter = .idle) :
    t.link.transmitter = .idle := by
  cases part with
  | control _ _ _ _ _ may => exact absurd may noStart
  | tile _ _ _ _ _ _ may => exact absurd may noStart
  | fails d =>
    rcases s.strapFailed_cases d with ⟨-, is⟩ | ⟨-, is⟩ <;> rw [is]
    · exact idle
    · simp
  | mismatch sending => simp [idle] at sending
  | matched => rfl
  | markDone => rfl
  | reset => rfl
  | linkBusy => exact idle
  | selfTrusts => simpa [State.selfTrust] using idle
  | fallsBack => simpa [State.syncingFallback] using idle
  | captureBegins n => simpa using idle
  | captureEnds n => simpa using idle
  | line => simpa using idle
  | slotOff n => simpa using idle
  | slotOn n => simpa using idle
  | founds => simpa using idle
  | loads => simpa using idle
  | closeQueued => simpa using idle
  | queryRepeats => simpa using idle
  | leave => simpa using idle
  | settles => simpa using idle
  | _ => exact idle

theorem transmitterIdle_units {hd : Header} {p : Option (List Byte)} (own : Option Flight) :
    UnitRules hd p own fun s => s.link.transmitter = .idle where
  count _ _ h := h
  mutes _ _ _ _ _ _ := by simp
  hears _ _ _ h := by simpa [State.hears, State.recordFrame] using h
  records _ _ _ h := h
  queryTimer _ _ _ h := h
  installs _ _ _ _ _ _ h := by simpa using h
  recording _ _ part _ h := by cases part <;> simpa using h
  suspects _ _ _ h := by simpa using h
  tile _ _ _ h := by simpa using h
  claim _ _ _ _ h := by simpa using h
  release _ _ _ _ h := by simpa using h
  bye _ _ _ h := by simpa using h
  close _ _ _ h := by simpa using h
  asked _ _ _ h := by simpa [State.answerQuery] using h
  served _ _ _ _ h := by simpa using h

theorem State.cellEnds_transmitter (idle : s.link.transmitter = .idle) (j : Judged) :
    (s.cellEnds j).link.transmitter = .idle := by
  rcases s.cellEnds_cases j with is | ⟨-, -, is⟩ | ⟨-, -, is⟩ | ⟨-, is⟩ | ⟨f, -, is⟩ | ⟨f, -, -, -, -, is⟩ <;> rw [is]
  · exact idle
  · exact idle
  · exact idle
  · have := UnitRules.handOver (transmitterIdle_units none) j.cls (s := s.afterLink j) idle
    simpa using this
  · have := UnitRules.handOver (transmitterIdle_units (some f)) (.heard f.cell) (s := s.afterOwn f) idle
    simpa using this
  · rw [State.settleAttempts_link]
    rcases (s.afterLost f j).ownCellAborted_cases f.source (f.report == .mismatched) with
      ⟨-, is⟩ | ⟨-, -, is⟩ | ⟨-, n, -, is⟩ | ⟨-, k, -, -, is⟩ <;> rw [is]
    · simp
    all_goals simpa [State.marksCleared, State.afterLost, State.afterLink] using idle

/-- R121: what a slot that takes the transmitter out of IDLE finds. -/
theorem State.slotBegins_starts {j : Nat} (idle : s.link.transmitter = .idle)
    (starts : (s.slotBegins j).link.transmitter ≠ .idle) :
    j % 16 = s.ladder.rank.val ∧ s.link.busy = false ∧ s.ladder.grid ≠ .stopped ∧ s.contends = true ∧
      (s.slotBegins j).link.transmitter = .sending := by
  cases grid : s.ladder.grid with
  | stopped =>
    rw [State.slotBegins, grid] at starts
    exact absurd idle starts
  | running last =>
    by_cases begins : (∀ i ∈ last, i < j) ∧ s.link.busy = false
    · obtain ⟨later, quiet⟩ := begins
      rw [State.slotBegins_eq grid later quiet] at starts ⊢
      by_cases rank : j % 16 = s.ladder.rank.val
      · rw [if_pos rank] at starts ⊢
        set t : State := { s with ladder := { s.ladder with grid := .running (some j) } }
        have same : t.selected = s.selected := rfl
        refine ⟨rank, quiet, nofun, ?_, ?_⟩
        · cases selected : s.selected with
          | none => exact absurd idle (by rwa [State.grantTurn_none (s := t) (same.trans selected)] at starts)
          | some src => simp [State.contends, selected]
        · unfold State.grantTurn at starts ⊢
          split at starts
          · exact absurd idle starts
          · split at starts
            · exact absurd idle starts
            · rfl
          · split at starts
            · exact absurd idle starts
            · rfl
      · rw [if_neg rank] at starts
        exact absurd idle starts
    · rw [State.slotBegins, grid] at starts
      simp only [] at starts
      rw [if_neg (by rw [Bool.and_eq_true, laterSlot_iff, Bool.not_eq_true']; exact begins)] at starts
      exact absurd idle starts

/-- R16, R31, R107, R119: every command but a cell's end. -/
theorem exec_planFields {c : Instr} (other : ∀ levels, c ≠ .cellEnd levels) (next : exec c s = .next t) :
    let rejoins := s.membership.state = .left ∧
      (c = .rejoin [] ∨ ∃ bytes, c = .requestWindow bytes ∧ decodeWindowBytes bytes = some (.rejoin []))
    let fallsBack := s.membership.state = .syncing ∧ c = .queryTimerExpiry
    (t.claims.table = s.claims.table ∨ (t.claims.table = [] ∧ (s.resetBy c ≠ none ∨ rejoins ∨ fallsBack))) ∧
    (t.frame.number = s.frame.number ∨ (t.frame.number = 0 ∧ (s.resetBy c ≠ none ∨ rejoins)) ∨
      (fallsBack ∧ t.frame.number = s.frame.lastHeard)) ∧
    (t.link.lastSender = s.link.lastSender ∨ (s.resetBy c ≠ none ∧ t.link.lastSender = none)) ∧
    (t.ladder.rank = s.ladder.rank ∨ s.resetBy c ≠ none ∨ ∃ read, c = .strapAttemptEnd read) := by
  intro rejoins fallsBack
  have kept (same : s.SamePlan t) (rank : (¬∃ read, c = .strapAttemptEnd read) → t.ladder.rank = s.ladder.rank) :
      (t.claims.table = s.claims.table ∨ (t.claims.table = [] ∧ (s.resetBy c ≠ none ∨ rejoins ∨ fallsBack))) ∧
      (t.frame.number = s.frame.number ∨ (t.frame.number = 0 ∧ (s.resetBy c ≠ none ∨ rejoins)) ∨
        (fallsBack ∧ t.frame.number = s.frame.lastHeard)) ∧
      (t.link.lastSender = s.link.lastSender ∨ (s.resetBy c ≠ none ∧ t.link.lastSender = none)) ∧
      (t.ladder.rank = s.ladder.rank ∨ s.resetBy c ≠ none ∨ ∃ read, c = .strapAttemptEnd read) := by
    refine ⟨.inl same.table, .inl same.number, .inl same.lastSender, ?_⟩
    by_cases attempt : ∃ read, c = .strapAttemptEnd read
    · exact .inr (.inr attempt)
    · exact .inl (rank attempt)
  by_cases resets : s.resetBy c = none
  swap
  · obtain ⟨cause, count, line, p, rfl⟩ := exec_of_reset resets next
    exact ⟨.inr ⟨rfl, .inl resets⟩, .inr (.inl ⟨rfl, .inl resets⟩), .inr ⟨resets, rfl⟩, .inr (.inl resets)⟩
  by_cases expires : c = .queryTimerExpiry
  · subst expires
    obtain rfl := Host.Outcome.next.inj next
    by_cases running : s.recovery.timerRunning = true
    swap
    · rw [if_neg running] at kept ⊢
      exact kept (.refl s) fun _ => rfl
    rw [if_pos running] at kept ⊢
    have rank : s.queryExpired.settleAttempts.ladder.rank = s.queryExpired.ladder.rank := by rw [State.settleAttempts_eq]
    by_cases syncing : s.membership.state = .syncing ∧ 3 ≤ s.recovery.attempts
    · obtain ⟨syncing, many⟩ := syncing
      have is : s.queryExpired = (s.setQueryTimer false).syncingFallback := by
        rw [State.queryExpired, if_neg (Nat.not_lt.2 many), syncing]
      rw [rank, is]
      exact ⟨.inr ⟨by simp, .inr (.inr ⟨syncing, rfl⟩)⟩, .inr (.inr ⟨⟨syncing, rfl⟩, by simp⟩),
        .inl (by simp [State.syncingFallback]), .inl (by simp [State.syncingFallback])⟩
    · have same : s.SamePlan s.queryExpired ∧ s.queryExpired.ladder.rank = s.ladder.rank := by
        unfold State.queryExpired
        simp only []
        split
        · exact ⟨⟨by simp, by simp, by simp⟩, by simp⟩
        · next many =>
          split
          · exact ⟨⟨by simp [State.selfTrust], by simp, by simp [State.selfTrust]⟩, by simp [State.selfTrust]⟩
          · next is => exact absurd ⟨is, Nat.not_lt.1 many⟩ syncing
          all_goals exact ⟨⟨rfl, rfl, rfl⟩, rfl⟩
      exact kept ⟨by simpa using same.1.table, by simpa using same.1.number, by simpa using same.1.lastSender⟩ fun _ =>
        rank.trans same.2
  by_cases rejoining : (scopeOf c s).rejoins
  · obtain rfl := Host.Outcome.next.inj ((exec_rejoins rejoining).symm.trans next)
    rcases request_rejoin_cases s with ⟨p, is⟩ | ⟨left, p, is⟩ <;> rw [is] at kept ⊢
    · exact kept ⟨rfl, rfl, rfl⟩ fun _ => rfl
    · exact ⟨.inr ⟨rfl, .inr (.inl ⟨left, rejoining⟩)⟩, .inr (.inl ⟨rfl, .inr ⟨left, rejoining⟩⟩), .inl rfl, .inl rfl⟩
  · have run := exec_eventsIn (scopeOf_covers c s) other next
    obtain ⟨same, rank⟩ : s.SamePlan t ∧ (¬(scopeOf c s).attempts → t.ladder.rank = s.ladder.rank) :=
      run.keep (P := fun t => s.SamePlan t ∧ (¬(scopeOf c s).attempts → t.ladder.rank = s.ladder.rank))
        (fun u v part ⟨same, rank⟩ =>
          have step := part.samePlan (not_not_intro resets) rejoining expires
          ⟨same.trans step.1, fun no => (step.2 no).trans (rank no)⟩)
        ⟨.refl s, fun _ => rfl⟩
    exact kept same rank

end PlanFields

/-- Settles O37: a cell's end apart, the fields change by the parts that may change them; a transmission starts at a
slot alone. -/
theorem thePlanChangesOnlyWhereItsRulesSay : Obligations.ThePlanChangesOnlyWhereItsRulesSay := by
  intro c s t next
  refine ⟨fun other => exec_planFields other next, fun idle starts => ?_⟩
  by_cases slot : ∃ j, c = .slotStart j
  · obtain ⟨j, rfl⟩ := slot
    obtain rfl := Host.Outcome.next.inj next
    exact ⟨j, rfl, State.slotBegins_starts idle starts⟩
  · refine absurd ?_ starts
    by_cases cell : ∃ levels, c = .cellEnd levels
    · obtain ⟨levels, rfl⟩ := cell
      obtain rfl := Host.Outcome.next.inj next
      exact State.cellEnds_transmitter idle _
    · exact (exec_eventsIn (scopeOf_covers c s) (fun levels is => cell ⟨levels, is⟩) next).keep
        (fun _ _ part idle => part.transmitter_idle slot idle) idle

end Sys2Proof.Machine
end

section
set_option Elab.async false
/-! O25: the checks of a CLAIM in their order, and the local checks of a slot (R7 to R10, R18). -/

namespace Sys2Proof.Machine

section Checks

theorem rangeFails_iff (w h slot format : Nat) (r : Region) :
    rangeFails w h slot format r = true ↔
      3 < slot ∨ 3 < format ∨ r.cols.toNat < 16 ∨ r.cols.toNat % 16 ≠ 0 ∨ r.col0.toNat % 16 ≠ 0 ∨ r.rows.toNat = 0 ∨
        w < r.col0.toNat + r.cols.toNat ∨ h < r.row0.toNat + r.rows.toNat := by
  simp [rangeFails, or_assoc]

/-- R9: the row of a format's pixels, two bytes wide at most 2048 columns. -/
theorem widthFails_ofBits (c : Nat) (r : Region) :
    widthFails (Format.ofBits c) r = true ↔ 4096 < [2, 3, 4, 6].getD (c % 4) 0 * r.cols.toNat := by
  rw [widthFails_iff, Format.ofBits]
  obtain is | is | is | is : c % 4 = 0 ∨ c % 4 = 1 ∨ c % 4 = 2 ∨ c % 4 = 3 := by omega
  all_goals
    rw [is]
    simp
    omega

theorem regionsOverlap_iff (a b : Region) :
    regionsOverlap a b = true ↔
      ∃ row col : Nat, a.row0.toNat ≤ row ∧ row < a.row0.toNat + a.rows.toNat ∧
        b.row0.toNat ≤ row ∧ row < b.row0.toNat + b.rows.toNat ∧
        a.col0.toNat ≤ col ∧ col < a.col0.toNat + a.cols.toNat ∧
        b.col0.toNat ≤ col ∧ col < b.col0.toNat + b.cols.toNat := by
  simp only [regionsOverlap, Bool.and_eq_true, decide_eq_true_eq]
  constructor
  · rintro ⟨rows, cols⟩
    exact ⟨max a.row0.toNat b.row0.toNat, max a.col0.toNat b.col0.toNat, by omega, by omega, by omega, by omega, by omega,
      by omega, by omega, by omega⟩
  · rintro ⟨row, col, h⟩
    omega

theorem key_eq_iff (e : Entry) (sender : Station) (slot : Nat) :
    (e.key == ⟨sender, Fin.ofNat 4 slot⟩) = decide (e.owner = sender ∧ e.slot.val = slot % 4) := by
  rw [Bool.eq_iff_iff, beq_iff_eq, decide_eq_true_iff, Entry.key, TileKey.mk.injEq, Fin.ext_iff (a := e.slot)]
  rfl

theorem judgeClaim_eq (s : State) (sender : Station) (b : ClaimBody) :
    s.judgeClaim sender b =
      ([(decide ((s.rosterAt sender).present = false), ClaimRefusal.notMember),
        (decide (3 < b.slot.toNat ∨ 3 < b.format.toNat ∨ b.region.cols.toNat < 16 ∨ b.region.cols.toNat % 16 ≠ 0 ∨
            b.region.col0.toNat % 16 ≠ 0 ∨ b.region.rows.toNat = 0 ∨
            strapWidth s.strap.words < b.region.col0.toNat + b.region.cols.toNat ∨
            strapHeight s.strap.words < b.region.row0.toNat + b.region.rows.toNat), .range),
        (decide (4096 < [2, 3, 4, 6].getD (b.format.toNat % 4) 0 * b.region.cols.toNat), .width),
        (s.claims.table.any (fun e => e.owner = sender ∧ e.slot.val = b.slot.toNat % 4), .duplicate),
        (decide (32 ≤ s.claims.table.length), .full),
        (s.claims.table.any (fun e => regionsOverlap e.region b.region), .overlap)].find? Prod.fst).map Prod.snd := by
  have bool : ∀ (b : Bool), b = decide (b = true) := fun b => by simp
  rw [bool (s.claims.table.any fun e => e.owner = sender ∧ e.slot.val = b.slot.toNat % 4),
    bool (s.claims.table.any fun e => regionsOverlap e.region b.region)]
  simp only [firstFailure_cons, List.find?_nil, Option.map_none]
  refine if_congr ?_ rfl (if_congr (rangeFails_iff _ _ _ _ _) rfl (if_congr (widthFails_ofBits _ _) rfl
    (if_congr ?_ rfl (if_congr Iff.rfl rfl (if_congr Iff.rfl rfl rfl)))))
  · simp [State.present]
  · simp only [key_eq_iff]

theorem formatAllowed_iff (k : SensorKind) (f : Format) :
    formatAllowed k f = true ↔ f ∈ (match k with
      | .color => [Format.rgb888, .rgb565, .mono8]
      | .mono => [Format.mono12p, .mono8]) := by
  cases k <;> cases f <;> simp [formatAllowed]

end Checks

/-- Settles O25: each judgement is its row's, in order; two spans intersect at the later of their starts. -/
theorem claimChecksInOrder : Obligations.ClaimChecksInOrder := by
  refine ⟨fun s sender b => ⟨judgeClaim_eq s sender b, fun e _ => regionsOverlap_iff e.region b.region⟩,
    fun words n f r c => ?_⟩
  have slot := n.isLt
  have width : widthFails f r = false ∧ 16 ∣ r.cols.toNat ↔ (match f with
      | .mono8 => r.cols.toNat ≤ 2048
      | .mono12p => r.cols.toNat * 3 ≤ 4096
      | .rgb565 => r.cols.toNat ≤ 1024
      | .rgb888 => r.cols.toNat * 3 ≤ 2048) ∧ 16 ∣ r.cols.toNat := by
    refine and_congr_left fun step => ?_
    rw [← Bool.not_eq_true, widthFails_iff]
    cases f <;> simp only [rowBytes_mono8, rowBytes_mono12p, rowBytes_rgb565, rowBytes_rgb888] <;> omega
  have code : f.code ≤ 3 := by cases f <;> decide
  have range := rangeFails_iff (strapWidth words) (strapHeight words) n.val f.code r
  simp only [localChecks, Bool.and_eq_true, Bool.not_eq_true', decide_eq_true_eq, formatAllowed_iff]
  rw [← Bool.not_eq_true, range]
  constructor
  · rintro ⟨⟨⟨⟨inRange, narrow⟩, right⟩, bottom⟩, allowed⟩
    have step : 16 ∣ r.cols.toNat := by omega
    exact ⟨by omega, step, by omega, by omega, by omega, by omega, (width.1 ⟨narrow, step⟩).1, right, bottom, allowed⟩
  · rintro ⟨wide, step, start, tall, right, bottom, narrow, cropRight, cropBottom, allowed⟩
    exact ⟨⟨⟨⟨by omega, (width.2 ⟨narrow, step⟩).1⟩, cropRight⟩, cropBottom⟩, allowed⟩

end Sys2Proof.Machine
end

section
set_option Elab.async false
/-! O7: the end of a strap attempt (R175, R178 to R182). -/

namespace Sys2Proof.Machine

section Strap

variable {s : State}

/-! ### What passes on SDA (R175) -/

/-- The bits of a byte, most significant bit first. -/
def bitsDown (b : Byte) : List Bool := (List.range 8).map fun i => b.getLsbD (7 - i)

theorem bitsOfBytes_singleton (b : Byte) : bitsOfBytes [b] = bitsDown b := rfl

/-- The i-th of the four bytes that select the image, with its acknowledge bit. -/
def selectPart (i : Nat) (acknowledged : Bool) : List StrapSignal :=
  (if i = 0 then [.start] else if i = 3 then [.repeatedStart] else []) ++
    (bitsDown ([0x58, 0x00, 0x00, 0x59].getD i 0)).map StrapSignal.sent ++ [.memoryAck acknowledged]

theorem strapSignals_notAcknowledged (k : Fin 4) :
    strapSignals (.notAcknowledged k) = (List.range (k + 1)).flatMap (fun i => selectPart i (i < k)) ++ [.stop] := by
  revert k
  decide

theorem strapSignals_image (bytes : List Byte) :
    strapSignals (.image bytes) = (List.range 4).flatMap (fun i => selectPart i true) ++
      ((List.range 72).flatMap fun i =>
        (bitsDown (bytes.getD i 0)).map StrapSignal.clocked ++ [.stationAck (i < 71)]) ++ [.stop] := by
  have select : [StrapSignal.start] ++ sentByte 0x58 true ++ sentByte 0x00 true ++ sentByte 0x00 true ++ [.repeatedStart] ++
      sentByte 0x59 true = (List.range 4).flatMap fun i => selectPart i true := by decide
  have clocked : (List.range 72).flatMap (fun k => clockedByte (bytes.getD k 0) (k != 71)) =
      (List.range 72).flatMap fun i => (bitsDown (bytes.getD i 0)).map StrapSignal.clocked ++ [.stationAck (i < 71)] := by
    refine List.flatMap_congr fun i mem => ?_
    have below : i < 72 := List.mem_range.1 mem
    have last : (i != 71) = decide (i < 71) := by
      rw [Bool.eq_iff_iff, bne_iff_ne, decide_eq_true_iff]
      omega
    rw [clockedByte, bitsOfBytes_singleton, last]
  rw [strapSignals, select, clocked]

/-! ### A passing attempt (R180 to R182) -/

theorem State.takeIntoUse_eq : s.takeIntoUse = { s with
    link := { s.link with receiver := if s.link.busy then .awaitingIdle else .inUse }
    ladder := if s.link.busy then s.ladder else ⟨.running none, rankOf s.own s.link.lastSender, s.ladder.attempts⟩ } := by
  unfold State.takeIntoUse
  by_cases busy : s.link.busy = true
  · simp only [busy, if_true]
  · simp only [busy]
    rfl

theorem State.enterListen_eq (words : List Word) :
    s.enterListen words = { s with
      strap := { s.strap with words := words }
      claims := { s.claims with slots := tab4 (recordSlot words) }
      port := (s.depositAll (((slotOrder.filter fun n => recordEnabled words n && !(recordSlot words n).startOn).map fun n =>
        Notice.slot n .off .invalid) ++ [.state .listen .start])).port
      membership := { s.membership with state := .listen, silence := if s.link.busy then .held else .running }
      link := { s.link with receiver := if s.link.busy then .awaitingIdle else .inUse }
      ladder := if s.link.busy then s.ladder
        else ⟨.running none, rankOf (strapNumber words) s.link.lastSender, s.ladder.attempts⟩ } := by
  set notes := (slotOrder.filter fun n => recordEnabled words n && !(recordSlot words n).startOn).map fun n =>
    Notice.slot n .off .invalid with notes_is
  set t : State := { s with strap := { s.strap with words := words } } with t_is
  have loaded : t.forSlots loadSlot = t.planEdit (recordSlot words) [] notes := by
    rw [State.loadSlots_eq, notes_is]
    congr 3
    funext n
    simp only [recordSlot, t_is]
    cases recordEnabled words n <;> simp
  have entered : s.enterListen words =
      ((((t.planEdit (recordSlot words) [] notes).setState .listen).deposit
        (.state .listen .start)).startSilence).takeIntoUse := by
    rw [← loaded]; rfl
  have noted : ((t.planEdit (recordSlot words) [] notes).setState .listen).deposit (.state .listen .start) =
      { (t.planEdit (recordSlot words) [] notes).setState .listen with
        port := (s.depositAll (notes ++ [.state .listen .start])).port } := by
    rw [State.deposit_eq, State.depositAll_append]
    have port : ((t.planEdit (recordSlot words) [] notes).setState .listen).port = (s.depositAll notes).port :=
      (State.depositAll_port (s := s) (t := t) rfl notes)
    rw [State.deposit_port (s := s.depositAll notes) port]
    rfl
  rw [entered, noted, State.takeIntoUse_eq]
  apply State.ext_fields
  case queue => simp [State.planEdit, State.startSilence, State.setSilence, State.setState, t_is]
  all_goals rfl

theorem State.enterMuted_takeIntoUse (c : MuteCause) (w : StateCause) :
    (s.enterMuted c w).takeIntoUse = { s.enterMuted c w with
      link := { s.link with
        transmitter := .idle
        flight := none
        receiver := if s.link.busy then .awaitingIdle else .inUse }
      ladder := if s.link.busy then s.ladder
        else ⟨.running none, rankOf s.own s.link.lastSender, s.ladder.attempts⟩ } := by
  rw [State.takeIntoUse_eq]
  apply State.ext_fields
  case link => simp
  case ladder => simp [State.own]
  all_goals rfl

end Strap

/-- Settles O7: the signals byte by byte, then the two ends of an attempt. -/
theorem strapLoadEnds : Obligations.StrapLoadEnds := by
  refine ⟨fun s bytes strap released passes => ?_,
    fun bytes k => ⟨rfl, strapSignals_notAcknowledged k, strapSignals_image bytes⟩,
    fun s read => ⟨fun none => ?_, fun d failed strap released => ?_⟩⟩
  · intro w slot invalid t
    have judged : judgeRead (.image bytes) = .inr w := by
      rw [judgeRead, passes]
    refine congrArg Host.Outcome.next ((if_pos (by simp [State.loading, strap, released])).trans ?_)
    simp only [judged]
    refine (State.enterListen_eq w).trans ?_
    rw [State.depositAll_port (s := s) (by rfl)]
    rfl
  · exact congrArg Host.Outcome.next (if_neg (by simpa [State.loading] using none))
  · intro t
    have judged : judgeRead read = .inl d := by
      cases is : judgeRead read with
      | inl e => simp [is] at failed; rw [failed]
      | inr words => simp [is] at failed
    refine congrArg Host.Outcome.next ((if_pos (by simp [State.loading, strap, released])).trans ?_)
    simp only [judged]
    rw [State.strapFailed]
    by_cases first : s.strap.failed = 0
    · rw [if_neg (by simp [first]), if_pos first]
    · rw [if_pos (by simp only []; omega), if_neg first]
      exact State.enterMuted_takeIntoUse (s := t) .strap .strap

end Sys2Proof.Machine
end

section
set_option Elab.async false
/-! O15 to O17: another station's cell, as the link, a station in LISTEN or SYNCING, and one with the own number take it
(R57, R58, R60, R69, R76, R77, R105 to R110). -/

namespace Sys2Proof.Machine

section Peers

variable {s : State} {levels : List Level} {h : Header}

/-- The payload that a class hands to the units: a heard cell's. -/
def CellClass.payload? : CellClass → Option (List Byte)
  | .heard c => some c.payload
  | .headerHeard _ => none
  | .damaged => none

theorem exec_cellEnd_listens (listens : s.listens = true) :
    exec (.cellEnd levels) s =
      .next ((s.afterLink (judgeLevels levels)).handOver (judgeLevels levels).cls none).settleAttempts :=
  congrArg Host.Outcome.next (State.cellEnds_listens listens _)

theorem State.handOver_of_header {c : CellClass} (header : c.header? = some h) (own : Option Flight) :
    s.handOver c own = s.units h c.payload? own := by
  cases c <;> cases header <;> rfl

/-! ### What the link makes of a cell's end -/

section AfterLink

variable (s) (j : Judged)

theorem countJudged_eq (c : Counters) : countJudged j c = { c with
    aborted := satAdd c.aborted (if j.damage = some .aborted then 1 else 0)
    headerBad := satAdd c.headerBad (if j.damage = some .headerBad then 1 else 0)
    oversize := satAdd c.oversize (if j.damage = some .oversize then 1 else 0)
    payloadBad := satAdd c.payloadBad (match j.cls with
      | .headerHeard _ => 1
      | _ => 0)
    headerFixed := satAdd c.headerFixed (if j.repaired then 1 else 0)
    unknownKind := satAdd c.unknownKind (match j.cls with
      | .heard c => if Kind.ofCode c.header.kind = none ∨ malformed c = true then 1 else 0
      | .headerHeard h => if Kind.ofCode h.kind = none then 1 else 0
      | .damaged => 0) } := by
  have unknown : ∀ b : Bool, ∀ c : Counters, (if b then { c with unknownKind := satAdd c.unknownKind 1 } else c) =
      { c with unknownKind := satAdd c.unknownKind (if b then 1 else 0) } := by
    intro b c
    cases b <;> simp [satAdd_zero]
  have fixed : ∀ b : Bool, ∀ c : Counters, (if b then { c with headerFixed := satAdd c.headerFixed 1 } else c) =
      { c with headerFixed := satAdd c.headerFixed (if b then 1 else 0) } := by
    intro b c
    cases b <;> simp [satAdd_zero]
  rw [countJudged, unknown, fixed]
  obtain ⟨cls, damage, repaired⟩ := j
  cases damage with
  | none => cases cls <;> simp [CellClass.countsUnknown, satAdd_zero]
  | some d => cases d <;> cases cls <;> simp [CellClass.countsUnknown, satAdd_zero]

theorem State.afterLink_settled :
    (s.afterLink j).settleAttempts = { s.afterLink j with ladder := { (s.afterLink j).ladder with
      attempts := if s.isMuted = true ∨ s.contends = true then s.ladder.attempts else 0 } } := by
  have muted : (s.afterLink j).isMuted = s.isMuted := rfl
  have contends : (s.afterLink j).contends = s.contends := rfl
  rw [State.settleAttempts, muted, contends]
  by_cases kept : s.isMuted = true ∨ s.contends = true
  · rw [if_pos (by simpa using kept), if_pos kept]
    rfl
  · rw [if_neg (by simpa using kept), if_neg kept]
    rfl

/-- R108: the units take nothing from a damaged cell, in MUTED, and in LEFT from another station's. -/
theorem State.handOver_nothing {c : CellClass} (nothing : c = .damaged ∨ s.isMuted = true ∨
    (s.membership.state = .left ∧ c.header?.map Header.sender ≠ some s.own)) : s.handOver c none = s := by
  rcases nothing with rfl | muted | ⟨left, other⟩
  · rfl
  · exact State.handOver_of_muted muted c none
  · cases header : c.header? with
    | none => cases c <;> first | rfl | cases header
    | some h =>
      rw [State.handOver_of_header header, State.units, left]
      simp only [header, Option.map_some, ne_eq, Option.some.injEq] at other
      simp [State.duplicate, other]

theorem rankOf_eq (own : Station) (l : Option Station) :
    rankOf own l = match l with
      | some x => Fin.ofNat 16 (own.val + 15 - x.val + 16)
      | none => own := by
  cases l with
  | none => rfl
  | some x =>
    apply Fin.ext
    have := x.isLt
    have := own.isLt
    rw [rankOf_toNat, Fin.val_ofNat]
    omega

end AfterLink

/-- R101, R118: the link goes idle at a receiver that judges nothing. -/
theorem State.cellEnds_unjudged (unjudged : s.link.receiver ≠ .inUse ∨ s.link.transmitter ≠ .idle) (j : Judged) :
    s.cellEnds j =
      if s.link.transmitter ≠ .idle then s
      else if s.link.receiver = .notInUse then { s with link := { s.link with busy := false } }
      else { s with
        link := { s.link with busy := false, receiver := .inUse }
        ladder := ⟨.running none, rankOf s.own s.link.lastSender, s.ladder.attempts⟩
        membership := { s.membership with
          silence := if s.membership.state = .listen then .running else s.membership.silence } } := by
  by_cases idle : s.link.transmitter = .idle
  · rw [if_neg (not_not_intro idle)]
    cases receiver : s.link.receiver with
    | inUse => simp [receiver, idle] at unjudged
    | notInUse => rw [if_pos rfl, State.cellEnds_notInUse idle receiver]; rfl
    | awaitingIdle => rw [if_neg (by simp), State.cellEnds_awaitingIdle idle receiver]; rfl
  · rw [if_pos idle, State.cellEnds_driving idle]

end Peers

/-- Settles O15: the units take nothing, so the link's part and the settled attempts are all. -/
theorem onlyTheLinkHears : Obligations.OnlyTheLinkHears := by
  refine ⟨fun s levels listens => ?_, fun s levels unjudged => congrArg Host.Outcome.next
    (State.cellEnds_unjudged unjudged _)⟩
  intro j l nothing
  rw [exec_cellEnd_listens listens, State.handOver_nothing (s := s.afterLink j) (c := j.cls) nothing,
    State.afterLink_settled]
  refine congrArg Host.Outcome.next ?_
  apply State.ext_fields
  case port => exact congrArg (fun c => { s.port with counters := c }) (countJudged_eq j s.port.counters)
  case ladder => exact congrArg (fun r => (⟨.running none, r, _⟩ : LadderUnit)) (rankOf_eq s.own l)
  all_goals rfl

end Sys2Proof.Machine
end

section
set_option Elab.async false
/-! O16, O17: the own number heard, and what a station in LISTEN or SYNCING makes of another station's cell (R58, R60,
R69, R76, R77). -/

namespace Sys2Proof.Machine

section Peers

variable {s : State} {levels : List Level} {h : Header} {p : Option (List Byte)}

theorem State.enterMuted_eq (cause : MuteCause) (why : StateCause) :
    s.enterMuted cause why = { s with
      queue := []
      store := []
      link := { s.link with transmitter := .idle, flight := none }
      capture := { s.capture with contexts := #v[.idle, .idle, .idle, .idle] }
      frame := { s.frame with timerRunning := false }
      membership := { s.membership with state := .muted cause, silence := .stopped }
      recovery := { s.recovery with timerRunning := false, dumpPending := [] }
      port := (s.deposit (.state (.muted cause) why)).port } := by
  rw [State.enterMuted, State.deposit_eq, State.deposit_port (s := s) (by rfl)]
  rfl

theorem State.settleAttempts_enterMuted (cause : MuteCause) (why : StateCause) :
    (s.enterMuted cause why).settleAttempts = s.enterMuted cause why :=
  State.settleAttempts_of_muted (by simp [State.isMuted])

theorem State.units_duplicate (active : s.membership.state ≠ .strap) (unmuted : s.isMuted = false) (own : h.sender = s.own) :
    s.units h p none = s.enterMuted .duplicate .duplicate := by
  have duplicate : s.duplicate h none = true := by simp [State.duplicate, own]
  unfold State.units
  cases state : s.membership.state with
  | strap => exact absurd state active
  | muted c => simp [State.isMuted, state] at unmuted
  | _ => simp [duplicate]

theorem State.duplicate_peer (other : h.sender ≠ s.own) (own : Option Flight) : s.duplicate h own = false := by
  simp [State.duplicate, other]

theorem State.units_listen (listen : s.membership.state = .listen) (other : h.sender ≠ s.own) :
    s.units h p none = s.listenCell h p := by
  rw [State.units, listen]
  simp [State.duplicate_peer other]

theorem State.units_syncing (syncing : s.membership.state = .syncing) (other : h.sender ≠ s.own) :
    s.units h p none = s.syncingCell h p false := by
  rw [State.units, syncing]
  simp [State.duplicate_peer other]

theorem usable_heard {k : Kind} {c : Cell} (kind : Kind.ofCode c.header.kind = some k) :
    usable k (some c.payload) c.header.length.toNat = if malformed c then none else some c.payload := by
  have sized (o : Option Nat) : (match o with
      | none => some c.payload
      | some n => if c.header.length.toNat = n then some c.payload else none) =
      if (match o with
        | none => false
        | some n => c.header.length.toNat != n) = true then none else some c.payload := by
    cases o with
    | none => rfl
    | some n => by_cases same : c.header.length.toNat = n <;> simp [same]
  rw [usable, malformed, kind]
  exact sized k.fixedLength

theorem usable_none (k : Kind) (len : Nat) : usable k none len = none := by
  rw [usable]
  split
  · rfl
  · split <;> rfl

/-- R69: a heard HELLO whose parameters differ. -/
theorem State.helloDisagrees_eq {c : CellClass} (header : c.header? = some h) :
    s.helloDisagrees h c.payload? = match (generalizing := false) c with
      | .heard c => Kind.ofCode h.kind == some .hello && !malformed c && !s.paramsMatch (helloOf c.payload)
      | _ => false := by
  cases c with
  | heard cell =>
    cases header
    simp only [State.helloDisagrees, CellClass.payload?]
    cases kind : Kind.ofCode cell.header.kind with
    | none => rfl
    | some k =>
      cases k with
      | hello =>
        simp only [usable_heard kind]
        cases malformed cell <;> simp
      | _ => rfl
  | headerHeard hd =>
    simp only [State.helloDisagrees, CellClass.payload?, usable_none]
    split <;> rfl
  | damaged => cases header

/-- R58: the first good header that a station in LISTEN hears. -/
theorem State.hears_eq (f : Word) :
    s.hears f = { s with
      queue := (s.enqueue .query).queue
      frame := { s.frame with lastHeard := f }
      membership := { s.membership with state := .syncing, silence := .stopped }
      recovery := { s.recovery with attempts := 1 }
      port := (s.deposit (.state .syncing .heard)).port } := by
  rw [State.hears, State.deposit_eq, State.deposit_port (s := s)]
  · unfold State.enqueue
    rw [show ((s.setSilence .stopped).recordFrame f).queues .query = s.queues .query from rfl]
    split <;> rfl
  · unfold State.enqueue
    split <;> rfl

end Peers

/-- Settles O16: every state's units mute on the own number, and MUTED keeps its attempts. -/
theorem duplicateNumberMutes : Obligations.DuplicateNumberMutes := by
  refine ⟨fun s levels h listens active unmuted header own => ?_, fun s cause why => State.enterMuted_eq cause why⟩
  rw [exec_cellEnd_listens listens, State.handOver_of_header header,
    State.units_duplicate (s := s.afterLink (judgeLevels levels)) active unmuted own, State.settleAttempts_enterMuted]

/-- Settles O17: the units of the two states, by whether a HELLO disagrees. -/
theorem listenAndSyncingHear : Obligations.ListenAndSyncingHear := by
  intro s levels h listens header other u payload mismatch
  have disagrees (t : State) (strap : t.strap = s.strap) :
      t.helloDisagrees h (judgeLevels levels).cls.payload? = mismatch := by
    have matches_ (b : HelloBody) : t.paramsMatch b = s.paramsMatch b := by
      simp only [State.paramsMatch, State.rosterTimeout, strap]
    rw [State.helloDisagrees_eq header]
    simp only [matches_]
    rfl
  refine ⟨fun listen => ?_, fun syncing unnamed => ?_⟩
  · rw [exec_cellEnd_listens listens, State.handOver_of_header header, State.units_listen (s := u) listen other,
      State.listenCell, disagrees u rfl]
    cases mismatch
    · have queue : (u.enqueue .query).queue = (s.enqueue .query).queue := by
        rw [State.enqueue_queue, State.enqueue_queue]
        rfl
      refine congrArg (fun v : State => Host.Outcome.next v.settleAttempts) ((State.hears_eq (s := u) h.frame).trans ?_)
      rw [queue]
      rfl
    · exact congrArg Host.Outcome.next (State.settleAttempts_enterMuted _ _)
  · have rest : (match Kind.ofCode h.kind, (judgeLevels levels).cls.payload?.bind dumpOf with
        | some .dump, some d => if d.names s.own then (u.recordFrame h.frame).install h d else u.recordFrame h.frame
        | _, _ => u.recordFrame h.frame) = u.recordFrame h.frame := by
      split
      next d dump read =>
        have unnamed : d.names s.own = false := by
          cases cls : (judgeLevels levels).cls with
          | heard c =>
            have payload_eq : payload = c.payload := by simp only [payload, cls]
            rw [cls] at read
            exact unnamed dump d (by rw [payload_eq]; exact read)
          | _ => simp [cls, CellClass.payload?] at read
        rw [unnamed]
        rfl
      next => rfl
    rw [exec_cellEnd_listens listens, State.handOver_of_header header, State.units_syncing (s := u) syncing other,
      State.syncingCell]
    simp only [disagrees u rfl]
    cases mismatch
    · exact congrArg (fun v : State => Host.Outcome.next v.settleAttempts) rest
    · exact congrArg Host.Outcome.next (State.settleAttempts_enterMuted _ _)

end Sys2Proof.Machine
end

section
set_option Elab.async false
/-! A good header at a MEMBER or SUSPECT station, in one equation per part: what is recorded (R62, R71), the signs
(R79 to R83), and the kind's own rules. -/

namespace Sys2Proof.Machine

section PlanCell

variable {s t : State} {h : Header} {p : Option (List Byte)} {own : Option Flight} {k : Kind}

/-! ### The roster -/

theorem State.setRoster_setRoster (i : Station) (e f : RosterEntry) : (s.setRoster i e).setRoster i f = s.setRoster i f := by
  simp [State.setRoster]

theorem State.setRoster_rosterAt_self (i : Station) : s.setRoster i (s.rosterAt i) = s := by
  simp [State.setRoster, State.rosterAt]

theorem State.setRoster_present (i j : Station) (e : RosterEntry) :
    (s.setRoster i e).present j = if j = i then e.present else s.present j := by
  simp only [State.present, State.setRoster_rosterAt]
  split <;> rfl

theorem State.live_eq (i : Station) :
    s.live i = s.setRoster i { s.rosterAt i with heard := (s.rosterAt i).heard || s.present i } := by
  unfold State.live
  split
  · next present => simp [present]
  · next absent =>
    rw [Bool.eq_false_of_not_eq_true absent, Bool.or_false]
    exact (State.setRoster_rosterAt_self i).symm

theorem State.live_present (i j : Station) : (s.live i).present j = s.present j := by
  rw [State.live_eq, State.setRoster_present]
  split
  · next same => rw [same]; rfl
  · rfl

/-- R71: a TILE carries no control sequence. -/
def State.sequenced (s : State) (k : Kind) (h : Header) : State :=
  if k == .tile then s else s.recordSequence h.sender h.sequence

theorem State.recorded_of_unknown (unknown : Kind.ofCode h.kind = none) : s.recorded h = s.live h.sender := by
  rw [State.live_eq, State.recorded, unknown]
  rfl

theorem State.recorded_of_known (kind : Kind.ofCode h.kind = some k) :
    s.recorded h = (s.live h.sender).sequenced k h := by
  rw [State.live_eq, State.recorded, State.sequenced, kind]
  cases k with
  | tile => rfl
  | _ => simp [State.recordSequence, State.setRoster_setRoster, State.setRoster_rosterAt]; rfl

/-! ### The signs -/

/-- R79: a cell's sign makes a MEMBER SUSPECT. -/
def State.suspected (s : State) (why : Option StateCause) : State :=
  match why with
  | some why => s.enterSuspect why
  | none => s

/-- R79: a MEMBER judges the signs of another station's cell. -/
def State.cellSigns (s : State) (k : Kind) (h : Header) (p : Option (List Byte)) (own : Option Flight) : Signs :=
  if s.isMember && own.isNone then
    s.signs k (frameClass s.frame.number h.frame) h p (s.present h.sender) (s.rosterAt h.sender).sequence
  else Signs.none

theorem State.cellSigns_own (f : Flight) : s.cellSigns k h p (some f) = Signs.none := by
  simp [State.cellSigns]

theorem State.cellSigns_suspect (suspect : s.membership.state = .suspect) : s.cellSigns k h p own = Signs.none := by
  simp [State.cellSigns, State.isMember, suspect]

theorem State.cellSigns_member (member : s.membership.state = .member) :
    s.cellSigns k h p none =
      s.signs k (frameClass s.frame.number h.frame) h p (s.present h.sender) (s.rosterAt h.sender).sequence := by
  simp [State.cellSigns, State.isMember, member]

/-- The signs depend on the own number, the parameters, the table and the own entry's presence only. -/
theorem State.signs_congr (strap : t.strap = s.strap) (table : t.claims.table = s.claims.table)
    (present : t.present s.own = s.present s.own) (cls : FrameClass) (b : Bool) (q : Byte) :
    t.signs k cls h p b q = s.signs k cls h p b q := by
  have own : t.own = s.own := by simp only [State.own, strap]
  have params (body : HelloBody) : t.paramsMatch body = s.paramsMatch body := by
    simp only [State.paramsMatch, State.rosterTimeout, strap]
  simp only [State.signs, own, params, table, present]

/-- R68: the HELLO's part touches the roster at its sender, and counts. -/
theorem State.peerHello_signs_frame (i : Station) (b : HelloBody) (other : i ≠ s.own) :
    (s.peerHello i b).strap = s.strap ∧ (s.peerHello i b).claims.table = s.claims.table ∧
      (s.peerHello i b).present s.own = s.present s.own ∧ (s.peerHello i b).isMember = s.isMember := by
  unfold State.peerHello
  split
  · split
    · exact ⟨rfl, rfl, rfl, rfl⟩
    · exact ⟨rfl, rfl, by rw [State.setRoster_present, if_neg other.symm], rfl⟩
  · exact ⟨rfl, rfl, rfl, rfl⟩

theorem State.helloPart_signs_frame (cls : FrameClass) (other : h.sender ≠ s.own) :
    (s.helloPart k cls h p false).strap = s.strap ∧ (s.helloPart k cls h p false).claims.table = s.claims.table ∧
      (s.helloPart k cls h p false).present s.own = s.present s.own := by
  unfold State.helloPart
  split
  · obtain ⟨strap, table, present, -⟩ := s.peerHello_signs_frame h.sender (helloOf _) other
    exact ⟨strap, table, present⟩
  · exact ⟨rfl, rfl, rfl⟩

/-! ### The cell in its parts -/

theorem State.planCell_of_unknown (unknown : Kind.ofCode h.kind = none) : s.planCell h p own = s.recorded h := by
  rw [State.planCell, unknown, State.recorded_of_unknown unknown]

theorem State.planCell_of_known (kind : Kind.ofCode h.kind = some k) (other : own = none → h.sender ≠ s.own) :
    s.planCell h p own =
      ((((s.live h.sender).helloPart k (frameClass s.frame.number h.frame) h p own.isSome).count
        (countSigns (s.cellSigns k h p own))).sequenced k h |>.suspected (s.cellSigns k h p own).first).kindRules k
        (frameClass s.frame.number h.frame) h p own := by
  have signs : (if s.isMember && own.isNone then
      ((s.live h.sender).helloPart k (frameClass s.frame.number h.frame) h p own.isSome).signs k
        (frameClass s.frame.number h.frame) h p (s.present h.sender) (s.rosterAt h.sender).sequence
      else Signs.none) = s.cellSigns k h p own := by
    unfold State.cellSigns
    cases own with
    | some f => simp
    | none =>
      obtain ⟨strap, table, present⟩ :=
        State.helloPart_signs_frame (s := s.live h.sender) (p := p) (k := k) (frameClass s.frame.number h.frame)
          (h := h) (by simpa [State.own] using other rfl)
      have liveOwn : (s.live h.sender).own = s.own := by simp [State.own]
      rw [liveOwn, State.live_present] at present
      simp only [Option.isSome_none, State.signs_congr (strap.trans (by simp)) (table.trans (by simp)) present]
  rw [State.planCell, kind]
  simp only []
  rw [← signs]
  rfl

/-- A cell without a HELLO's own part: recorded, judged for its signs, then taken by its kind. -/
theorem State.planCell_of_inert (kind : Kind.ofCode h.kind = some k) (other : own = none → h.sender ≠ s.own)
    (inert : k = .hello → h.frame = s.frame.number → usable k p h.length.toNat = none) :
    s.planCell h p own =
      (((s.recorded h).count (countSigns (s.cellSigns k h p own))).suspected (s.cellSigns k h p own).first).kindRules k
        (frameClass s.frame.number h.frame) h p own := by
  have nothing : ∀ t : State, t.helloPart k (frameClass s.frame.number h.frame) h p own.isSome = t := by
    intro t
    unfold State.helloPart
    split
    · next current bytes =>
      rw [inert rfl (frameClass_current_iff.1 current)] at bytes
      cases bytes
    · rfl
  rw [State.planCell_of_known kind other, nothing, State.recorded_of_known kind]
  cases k <;> rfl

/-- R91: a DUMP that names the station. -/
def State.named (s : State) (k : Kind) (p : Option (List Byte)) : Bool :=
  match k, p.bind dumpOf with
  | .dump, some d => d.names s.own
  | _, _ => false

theorem State.named_of_ne_dump (ne : k ≠ .dump) : s.named k p = false := by
  unfold State.named
  split
  · exact absurd rfl ne
  · rfl

theorem State.named_of_unnamed (unnamed : ∀ bytes ∈ p, k = .dump → ∀ d ∈ dumpOf bytes, d.names s.own = false) :
    s.named k p = false := by
  unfold State.named
  split
  · next d read =>
    obtain ⟨bytes, heard, read⟩ := Option.bind_eq_some_iff.1 read
    exact unnamed bytes heard rfl d read
  · rfl

/-- R80 to R82: the signs that a header alone shows. -/
def State.headerSigns (s : State) (k : Kind) (cls : FrameClass) (h : Header) (p : Option (List Byte)) : Signs :=
  ⟨k != .tile && !s.inSequence h && !s.named k p, lostSign k cls p, k.classed && cls == .ahead, false, false, false⟩

theorem State.inSequence_eq :
    s.inSequence h = !(s.present h.sender && h.sequence != (s.rosterAt h.sender).sequence + 1) := by
  rw [State.inSequence, Bool.not_and, bne, Bool.not_not]

theorem State.headerSigns_eq (cls : FrameClass) :
    s.headerSigns k cls h p = ⟨gapSign k (s.present h.sender) (s.rosterAt h.sender).sequence h.sequence (s.named k p),
      lostSign k cls p, k.classed && cls == .ahead, false, false, false⟩ := by
  rw [State.headerSigns, State.inSequence_eq, Bool.not_not, gapSign, ← Bool.and_assoc]

theorem State.signs_of_inert (cls : FrameClass) (inert : k = .hello → cls = .current → usable k p h.length.toNat = none) :
    s.signs k cls h p (s.present h.sender) (s.rosterAt h.sender).sequence = s.headerSigns k cls h p := by
  rw [State.headerSigns_eq]
  unfold State.signs
  extract_lets named base
  split
  · next bytes => rw [inert rfl rfl] at bytes; cases bytes
  · rfl

/-- R69, R83: the signs of a HELLO that is compared. -/
theorem State.signs_of_hello {bytes : List Byte} (read : usable .hello p h.length.toNat = some bytes) :
    s.signs .hello .current h p (s.present h.sender) (s.rosterAt h.sender).sequence =
      let b := helloOf bytes
      let differs := b.present.getLsbD s.own.val && b.digest != tableDigest s.claims.table
      if s.present h.sender && s.paramsMatch b then { s.headerSigns .hello .current h p with
        omitted := !b.present.getLsbD s.own.val && s.present s.own
        digest := differs && h.sender.val < s.own.val
        digestDiffers := differs }
      else s.headerSigns .hello .current h p := by
  rw [State.headerSigns_eq]
  unfold State.signs
  rw [read]
  rfl

/-- No sign, no count, no entry into SUSPECT. -/
theorem State.planCell_of_no_signs (kind : Kind.ofCode h.kind = some k) (other : own = none → h.sender ≠ s.own)
    (inert : k = .hello → h.frame = s.frame.number → usable k p h.length.toNat = none)
    (signs : s.cellSigns k h p own = Signs.none) :
    s.planCell h p own = (s.recorded h).kindRules k (frameClass s.frame.number h.frame) h p own := by
  rw [State.planCell_of_inert kind other inert, signs]
  rfl

end PlanCell

end Sys2Proof.Machine
end

section
set_option Elab.async false
/-! O18, O19: cells of other frames, GAP, and cells that are recorded only (R37, R38, R62, R71, R79 to R82, R85). -/

namespace Sys2Proof.Machine

section PlanCell

variable {s t : State} {h : Header} {p : Option (List Byte)} {own : Option Flight} {k : Kind} {levels : List Level}

theorem exec_plan_peer (listens : s.listens = true) (inPlan : s.membership.state = .member ∨ s.membership.state = .suspect)
    (header : (judgeLevels levels).cls.header? = some h) (other : h.sender ≠ s.own) :
    exec (.cellEnd levels) s = .next
      ((s.afterLink (judgeLevels levels)).planCell h (judgeLevels levels).cls.payload? none).settleAttempts := by
  rw [exec_cellEnd_listens listens, State.handOver_of_header header]
  refine congrArg (fun t : State => Host.Outcome.next t.settleAttempts) ?_
  have duplicate : (s.afterLink (judgeLevels levels)).duplicate h none = false := State.duplicate_peer other none
  have state : (s.afterLink (judgeLevels levels)).membership.state = s.membership.state := rfl
  rw [State.units, state, duplicate]
  rcases inPlan with state | state <;> rw [state] <;> rfl

theorem CellClass.payload?_isNone_iff {c : CellClass} (header : c.header? = some h) :
    c.payload?.isNone = true ↔ c = .headerHeard h := by
  cases c <;> cases header <;> simp [CellClass.payload?]

theorem frameClass_behind {f g : Word} (behind : 32768 ≤ (g - f).toNat) : frameClass f g = .behind := by
  have ne : g ≠ f := by
    rintro rfl
    simp at behind
  rw [frameClass, if_neg ne, if_neg (by omega)]

theorem frameClass_ahead {f g : Word} (ahead : (g - f).toNat ∈ Finset.Icc 1 32767) : frameClass f g = .ahead := by
  obtain ⟨low, high⟩ := Finset.mem_Icc.1 ahead
  have ne : g ≠ f := by
    rintro rfl
    simp at low
  rw [frameClass, if_neg ne, if_pos high]

/-! ### The kinds' rules that leave the state -/

theorem Kind.classed_iff : k.classed = true ↔ k ∉ [Kind.query, .dump] := by
  cases k <;> simp [Kind.classed]

theorem State.kindRules_ahead (classed : k.classed = true) : s.kindRules k .ahead h p own = s := by
  unfold State.kindRules
  rw [classed]

theorem State.kindRules_behind (classed : k.classed = true) : s.kindRules k .behind h p own = s.countBehind k := by
  unfold State.kindRules
  rw [classed]

theorem State.kindRules_current (classed : k.classed = true) :
    s.kindRules k .current h p own = s.currentCell k h (usable k p h.length.toNat) own := by
  unfold State.kindRules
  rw [classed]

theorem State.currentCell_none (notTile : k ≠ .tile) : s.currentCell k h none own = s := by
  cases k with
  | tile => exact absurd rfl notTile
  | _ => rfl

theorem State.kindRules_unusable (notTile : k ≠ .tile) {cls : FrameClass} (unusable : usable k p h.length.toNat = none)
    (current : k.classed = true → cls = .current) : s.kindRules k cls h p own = s := by
  cases classed : k.classed with
  | true => rw [current classed, State.kindRules_current classed, unusable, State.currentCell_none notTile]
  | false =>
    unfold State.kindRules
    rw [classed, unusable]
    cases k <;> rfl

theorem State.headerSigns_quiet (gap : k = .tile ∨ s.inSequence h = true) {cls : FrameClass}
    (lost : lostSign k cls p = false) (ahead : k.classed = true → cls ≠ .ahead) : s.headerSigns k cls h p = Signs.none := by
  have quiet : (k != .tile && !s.inSequence h) = false := by
    rcases gap with rfl | seq
    · rfl
    · simp [seq]
  rw [State.headerSigns, quiet, lost, show (k.classed && cls == .ahead) = false by
    cases classed : k.classed <;> simp [ahead, classed]]
  rfl

/-- A MEMBER's cell in sequence, or any at a SUSPECT station, that shows no sign, goes to its kind's rules. -/
theorem State.planCell_quiet (kind : Kind.ofCode h.kind = some k) (other : h.sender ≠ s.own)
    (inert : k = .hello → h.frame = s.frame.number → usable k p h.length.toNat = none)
    (quiet : s.membership.state = .suspect ∨ (s.membership.state = .member ∧ (k = .tile ∨ s.inSequence h = true) ∧
      lostSign k (frameClass s.frame.number h.frame) p = false ∧
      (k.classed = true → frameClass s.frame.number h.frame ≠ .ahead))) :
    s.planCell h p none = (s.recorded h).kindRules k (frameClass s.frame.number h.frame) h p none := by
  refine State.planCell_of_no_signs kind (fun _ => other) inert ?_
  rcases quiet with suspect | ⟨member, gap, lost, ahead⟩
  · exact State.cellSigns_suspect suspect
  · rw [State.cellSigns_member member,
      State.signs_of_inert _ fun hello current => inert hello (frameClass_current_iff.1 current)]
    exact State.headerSigns_quiet gap lost ahead

theorem State.planCell_behind (kind : Kind.ofCode h.kind = some k) (other : h.sender ≠ s.own) (classed : k.classed = true)
    (late : 32768 ≤ (h.frame - s.frame.number).toNat)
    (quiet : s.membership.state = .suspect ∨ (s.membership.state = .member ∧ (k = .tile ∨ s.inSequence h = true))) :
    s.planCell h p none = (s.recorded h).countBehind k := by
  have behind := frameClass_behind late
  rw [State.planCell_quiet kind other, behind, State.kindRules_behind classed]
  · intro _ current
    rw [frameClass_current_iff.2 current] at behind
    cases behind
  · refine quiet.imp_right fun ⟨member, seq⟩ => ⟨member, seq, ?_, ?_⟩
    · simp [behind, lostSign]
    · simp [behind]

theorem State.planCell_ahead (kind : Kind.ofCode h.kind = some k) (other : h.sender ≠ s.own) (classed : k.classed = true)
    (early : (h.frame - s.frame.number).toNat ∈ Finset.Icc 1 32767) (suspect : s.membership.state = .suspect) :
    s.planCell h p none = s.recorded h := by
  have ahead := frameClass_ahead early
  rw [State.planCell_quiet kind other _ (.inl suspect), ahead, State.kindRules_ahead classed]
  intro _ current
  rw [frameClass_current_iff.2 current] at ahead
  cases ahead

theorem Kind.ne_dump_of_classed (classed : k.classed = true) : k ≠ .dump := by
  rintro rfl
  cases classed

/-- R38, R80 to R82, R84: the header alone makes a MEMBER SUSPECT. -/
theorem State.planCell_suspects (kind : Kind.ofCode h.kind = some k) (other : h.sender ≠ s.own) (classed : k.classed = true)
    (member : s.membership.state = .member)
    (sign : (h.frame - s.frame.number).toNat ∈ Finset.Icc 1 32767 ∨
      (h.frame = s.frame.number ∧ k ∈ [Kind.hello, .claim, .release] ∧ p = none)) :
    s.planCell h p none =
      if k ≠ .tile ∧ s.inSequence h = false then
        ((s.recorded h).count fun c => { c with seqGap := satAdd c.seqGap 1 }).enterSuspect .gap
      else if k ∈ [Kind.hello, .claim, .release] ∧ p = none then (s.recorded h).enterSuspect .lost
      else (s.recorded h).enterSuspect .ahead := by
  have cls : frameClass s.frame.number h.frame = .ahead ∨ (frameClass s.frame.number h.frame = .current ∧
      k ∈ [Kind.hello, .claim, .release] ∧ p = none) :=
    sign.imp frameClass_ahead fun ⟨same, rest⟩ => ⟨frameClass_current_iff.2 same, rest⟩
  have inert : k = .hello → frameClass s.frame.number h.frame = .current → usable k p h.length.toNat = none := by
    intro _ current
    rcases cls with ahead | ⟨-, -, rfl⟩
    · rw [current] at ahead; cases ahead
    · exact usable_none _ _
  have lost : lostSign k (frameClass s.frame.number h.frame) p =
      decide (k ∈ [Kind.hello, .claim, .release] ∧ p = none) := by
    have notBehind : (frameClass s.frame.number h.frame != .behind) = true := by
      rcases cls with ahead | ⟨current, -⟩
      · rw [ahead]; rfl
      · rw [current]; rfl
    rw [lostSign, notBehind]
    cases k <;> cases p <;> rfl
  have rules (t : State) : t.kindRules k (frameClass s.frame.number h.frame) h p none = t := by
    rcases cls with ahead | ⟨current, lossy, rfl⟩
    · rw [ahead, State.kindRules_ahead classed]
    · refine State.kindRules_unusable ?_ (usable_none _ _) fun _ => current
      rintro rfl
      cases lossy with | tail _ h => cases h with | tail _ h => cases h with | tail _ h => cases h
  rw [State.planCell_of_inert kind (fun _ => other) fun hello same => inert hello (frameClass_current_iff.2 same), rules,
    State.cellSigns_member member, State.signs_of_inert _ inert, State.headerSigns,
    State.named_of_ne_dump (Kind.ne_dump_of_classed classed), lost]
  by_cases gap : k ≠ .tile ∧ s.inSequence h = false
  · have isGap : (k != .tile && !s.inSequence h && !false) = true := by simp [gap.1, gap.2]
    rw [if_pos gap, isGap]
    rfl
  · have quiet : (k != .tile && !s.inSequence h && !false) = false := by
      simpa using gap
    rw [if_neg gap, quiet]
    by_cases lossy : k ∈ [Kind.hello, .claim, .release] ∧ p = none
    · rw [if_pos lossy, decide_eq_true lossy]
      rfl
    · rw [if_neg lossy, decide_eq_false lossy]
      rcases cls with ahead | ⟨-, lossy'⟩
      · rw [ahead, classed]; rfl
      · exact absurd lossy' lossy

end PlanCell

/-- Settles O18: behind, ahead, and the headers that make a MEMBER SUSPECT. -/
theorem cellsOfOtherFrames : Obligations.CellsOfOtherFrames := by
  refine ⟨?_, ?_, ?_⟩
  · intro s levels h k listens inPlan header other kind classed late quiet
    have classed := Kind.classed_iff.2 classed
    have quiet : s.membership.state = .suspect ∨ (s.membership.state = .member ∧ (k = .tile ∨ s.inSequence h = true)) := by
      rcases inPlan with member | suspect
      · rcases quiet with tile | suspect | seq
        · exact .inr ⟨member, .inl tile⟩
        · exact .inl suspect
        · exact .inr ⟨member, .inr seq⟩
      · exact .inl suspect
    rw [exec_plan_peer listens inPlan header other,
      State.planCell_behind (s := s.afterLink _) kind other classed late quiet]
    cases k <;> first | rfl | cases classed
  · intro s levels h k listens suspect header other kind classed early
    rw [exec_plan_peer listens (.inr suspect) header other,
      State.planCell_ahead (s := s.afterLink _) kind other (Kind.classed_iff.2 classed) early suspect]
  · intro s levels h k listens member header other kind classed sign
    have lossy := CellClass.payload?_isNone_iff header
    rw [Option.isNone_iff_eq_none] at lossy
    rw [← lossy] at sign
    intro u gap lost
    have lost_iff : lost ↔ k ∈ [Kind.hello, .claim, .release] ∧ (judgeLevels levels).cls.payload? = none :=
      and_congr_right fun _ => lossy.symm
    rw [exec_plan_peer listens (.inl member) header other,
      State.planCell_suspects (s := s.afterLink _) kind other (Kind.classed_iff.2 classed) member sign]
    simp only [lost_iff]
    rfl

end Sys2Proof.Machine
end

section
set_option Elab.async false
/-! O19: GAP, after which a cell is taken as a SUSPECT station takes it (R80, R85), and cells that are recorded only. -/

namespace Sys2Proof.Machine

section Observed

variable {s t : State} {h : Header} {p : Option (List Byte)} {own : Option Flight} {k : Kind} {levels : List Level}

/-- What a cell's end leaves before its kind's own rules: in the link, the ladder, the silence timer, the roster and the
counters only. -/
def State.observed (s : State) (link : LinkUnit) (ladder : LadderUnit) (silence : SilenceTimer)
    (roster : Vector RosterEntry 16)
    (counters : Counters) : State :=
  { s with
    link := link
    ladder := ladder
    membership := { s.membership with roster := roster, silence := silence }
    port := { s.port with counters := counters } }

/-- `t` is `s` but for what a cell's end leaves before its kind's own rules. -/
def State.observes (t s : State) : Prop :=
  t = s.observed t.link t.ladder t.membership.silence t.membership.roster t.port.counters

theorem State.depositAll_counted {c : Counters} (port : t.port = { s.port with counters := c }) (l : List Notice) :
    (t.depositAll l).port = { (s.depositAll l).port with counters := c } := by
  induction l generalizing s t with
  | nil => exact port
  | cons x rest ih =>
    refine ih ?_
    unfold State.deposit
    rw [port]
    simp only []
    split <;> rfl

/-- R84: the entry into SUSPECT neither reads nor writes what is observed. -/
theorem State.observed_enterSuspect (link : LinkUnit) (ladder : LadderUnit) (silence : SilenceTimer)
    (roster : Vector RosterEntry 16)
    (counters : Counters) (why : StateCause) :
    (s.observed link ladder silence roster counters).enterSuspect why =
      (s.enterSuspect why).observed link ladder silence roster counters := by
  rw [suspectEntry, suspectEntry s]
  apply State.ext_fields
  case port => exact State.depositAll_counted (s := s) (c := counters) rfl _
  all_goals rfl

theorem countJudged_countSigns (j : Judged) (g : Signs) (c : Counters) :
    countJudged j (countSigns g c) = countSigns g (countJudged j c) := by
  rw [countJudged_eq, countJudged_eq]
  unfold countSigns
  cases g.gap <;> cases g.digestDiffers <;> rfl

theorem State.observed_observed (link link' : LinkUnit) (ladder ladder' : LadderUnit) (silence silence' : SilenceTimer)
    (roster roster' : Vector RosterEntry 16) (counters counters' : Counters) :
    (s.observed link ladder silence roster counters).observed link' ladder' silence' roster' counters' =
      s.observed link' ladder' silence' roster' counters' := rfl

theorem State.observes.trans {r : State} (second : r.observes t) (first : t.observes s) : r.observes s := by
  unfold State.observes at first second ⊢
  rw [first, State.observed_observed] at second
  exact second

theorem State.observes_refl : s.observes s := rfl

theorem State.observed_observes (link : LinkUnit) (ladder : LadderUnit) (silence : SilenceTimer)
    (roster : Vector RosterEntry 16) (counters : Counters) :
    (s.observed link ladder silence roster counters).observes s := rfl

theorem State.setRoster_observes (i : Station) (e : RosterEntry) : (s.setRoster i e).observes s := rfl

theorem State.peerHello_observes (i : Station) (b : HelloBody) : (s.peerHello i b).observes s := by
  unfold State.peerHello
  split
  · split
    · exact State.observes_refl
    · exact State.setRoster_observes _ _
  · rfl

theorem State.sequenced_observes : (s.sequenced k h).observes s := by
  unfold State.sequenced
  split
  · exact State.observes_refl
  · exact State.setRoster_observes _ _

theorem State.live_observes (i : Station) : (s.live i).observes s := by
  rw [State.live_eq]
  exact State.setRoster_observes _ _

/-- R68: for one cell, every state takes the HELLO's part, or none does. -/
theorem helloPart_peer_cases (k : Kind) (cls : FrameClass) (h : Header) (p : Option (List Byte)) :
    (∀ s : State, s.helloPart k cls h p false = s) ∨
      ∃ b, ∀ s : State, s.helloPart k cls h p false = s.peerHello h.sender b := by
  unfold State.helloPart
  split
  · exact .inr ⟨_, fun s => rfl⟩
  · exact .inl fun s => rfl

/-- What the link and the records make of a known cell that another station sent. -/
def State.observing (s : State) (j : Judged) (k : Kind) (h : Header) (p : Option (List Byte)) : State :=
  (((s.afterLink j).live h.sender).helloPart k (frameClass s.frame.number h.frame) h p false).sequenced k h

theorem State.observing_observes (j : Judged) : (s.observing j k h p).observes s := by
  have live : ((s.afterLink j).live h.sender).observes s :=
    State.observes.trans (State.live_observes _) (show (s.afterLink j).observes s from rfl)
  refine State.sequenced_observes.trans ?_
  rcases helloPart_peer_cases k (frameClass s.frame.number h.frame) h p with none | ⟨b, hello⟩
  · rw [none]
    exact live
  · rw [hello]
    exact (State.peerHello_observes _ _).trans live

/-- `t` holds what `s` does of all that is observed, but for the signs in `g`, which it has counted. -/
structure State.Alike (g : Signs) (t s : State) : Prop where
  link : t.link = s.link
  ladder : t.ladder = s.ladder
  silence : t.membership.silence = s.membership.silence
  roster : t.membership.roster = s.membership.roster
  strap : t.strap = s.strap
  counters : t.port.counters = countSigns g s.port.counters

theorem State.observed_alike (strap : t.strap = s.strap) (g : Signs) :
    (t.observed s.link s.ladder s.membership.silence s.membership.roster (countSigns g s.port.counters)).Alike g s :=
  ⟨rfl, rfl, rfl, rfl, strap, rfl⟩

namespace State.Alike

variable {g : Signs} (alike : t.Alike g s)
include alike

theorem rosterAt (i : Station) : t.rosterAt i = s.rosterAt i := by
  rw [State.rosterAt, State.rosterAt, alike.roster]

theorem station : t.own = s.own := by rw [State.own, State.own, alike.strap]

theorem afterLink (notListen : t.membership.state ≠ .listen) (notListen' : s.membership.state ≠ .listen) (j : Judged) :
    (t.afterLink j).Alike g (s.afterLink j) where
  link := by simp only [State.afterLink, alike.link]
  ladder := by simp only [State.afterLink, alike.ladder, alike.station]
  silence := by simp only [State.afterLink, if_neg notListen, if_neg notListen', alike.silence]
  roster := alike.roster
  strap := alike.strap
  counters := by simp only [State.afterLink, alike.counters, countJudged_countSigns]

theorem setRoster (i : Station) (e : RosterEntry) : (t.setRoster i e).Alike g (s.setRoster i e) where
  link := alike.link
  ladder := alike.ladder
  silence := alike.silence
  roster := by simp only [State.setRoster, alike.roster]
  strap := alike.strap
  counters := alike.counters

theorem live (i : Station) : (t.live i).Alike g (s.live i) := by
  rw [State.live_eq, State.live_eq, State.present, State.present, alike.rosterAt]
  exact alike.setRoster _ _

theorem sequenced : (t.sequenced k h).Alike g (s.sequenced k h) := by
  unfold State.sequenced
  split
  · exact alike
  · rw [State.recordSequence, State.recordSequence, alike.rosterAt]
    exact alike.setRoster _ _

theorem peerHello (i : Station) (b : HelloBody) : (t.peerHello i b).Alike g (s.peerHello i b) := by
  have params : t.paramsMatch b = s.paramsMatch b := by
    simp only [State.paramsMatch, State.rosterTimeout, alike.strap]
  unfold State.peerHello
  rw [params, State.present, State.present, alike.rosterAt]
  split
  · split
    · exact alike
    · exact alike.setRoster _ _
  · refine ⟨alike.link, alike.ladder, alike.silence, alike.roster, alike.strap, ?_⟩
    simp only [State.count, alike.counters]
    unfold countSigns
    cases g.gap <;> cases g.digestDiffers <;> rfl

theorem observing (number : t.frame.number = s.frame.number) (notListen : t.membership.state ≠ .listen)
    (notListen' : s.membership.state ≠ .listen) (j : Judged) : (t.observing j k h p).Alike g (s.observing j k h p) := by
  have live := (alike.afterLink notListen notListen' j).live h.sender
  unfold State.observing
  rw [number]
  refine State.Alike.sequenced ?_
  rcases helloPart_peer_cases k (frameClass s.frame.number h.frame) h p with none | ⟨b, hello⟩
  · rw [none, none]
    exact live
  · rw [hello, hello]
    exact live.peerHello _ _

end State.Alike

/-- R80, R85: what a MEMBER that counts the signs makes of a cell with GAP is what a SUSPECT station makes of it that has
counted them and entered SUSPECT before. -/
theorem State.observing_enterSuspect (member : s.membership.state = .member) (g : Signs) (why : StateCause) (j : Judged) :
    ((s.observing j k h p).count (countSigns g)).enterSuspect why =
      ((s.count (countSigns g)).enterSuspect why).observing j k h p := by
  set x := (s.observing j k h p).count (countSigns g) with x_is
  set y := (s.count (countSigns g)).enterSuspect why with y_is
  have x_observes : x.observes s := State.observes.trans (t := s.observing j k h p) rfl (State.observing_observes j)
  have y_eq : y = (s.enterSuspect why).observed s.link s.ladder s.membership.silence s.membership.roster
      (countSigns g s.port.counters) :=
    State.observed_enterSuspect (s := s) s.link s.ladder s.membership.silence s.membership.roster _ why
  have alike : y.Alike g s := y_eq ▸ State.observed_alike (t := s.enterSuspect why) (by simp) g
  have after : (y.observing j k h p).Alike g (s.observing j k h p) :=
    alike.observing (by simp [y_is]) (by simp [y_is, State.enterSuspect, State.setState]) (by simp [member]) j
  have y_observes : (y.observing j k h p).observes (s.enterSuspect why) :=
    (State.observing_observes j).trans (y_eq ▸ State.observed_observes _ _ _ _ _)
  calc x.enterSuspect why
      = (s.observed x.link x.ladder x.membership.silence x.membership.roster x.port.counters).enterSuspect why :=
        congrArg (fun t : State => t.enterSuspect why) x_observes
    _ = (s.enterSuspect why).observed x.link x.ladder x.membership.silence x.membership.roster x.port.counters :=
        State.observed_enterSuspect _ _ _ _ _ _
    _ = y.observing j k h p := by
        refine Eq.trans ?_ y_observes.symm
        rw [after.link, after.ladder, after.silence, after.roster, after.counters]
        rfl

end Observed

end Sys2Proof.Machine
end

section
set_option Elab.async false
/-! O19: the signs of a cell with GAP (R80, R83), and the cells that are recorded only (R62, R71, R85, R109, R110). -/

namespace Sys2Proof.Machine

section PlanCell

variable {s t : State} {h : Header} {p : Option (List Byte)} {own : Option Flight} {k : Kind} {levels : List Level}

theorem State.isCurrent_iff {c : Cell} : s.isCurrent k c = true ↔
    Kind.ofCode c.header.kind = some k ∧ c.header.frame = s.frame.number ∧ malformed c = false := by
  simp [State.isCurrent, and_assoc]

/-- A HELLO's comparison, or its signs are those of the header. -/
theorem State.signs_cases (cls : FrameClass) :
    (∃ bytes, k = .hello ∧ cls = .current ∧ usable k p h.length.toNat = some bytes) ∨
      s.signs k cls h p (s.present h.sender) (s.rosterAt h.sender).sequence = s.headerSigns k cls h p := by
  by_cases compared : ∃ bytes, k = .hello ∧ cls = .current ∧ usable k p h.length.toNat = some bytes
  · exact .inl compared
  · refine .inr (State.signs_of_inert cls fun hello current => ?_)
    cases read : usable k p h.length.toNat with
    | none => rfl
    | some bytes => exact absurd ⟨bytes, hello, current, read⟩ compared

theorem State.signs_gap (cls : FrameClass) :
    (s.signs k cls h p (s.present h.sender) (s.rosterAt h.sender).sequence).gap =
      (k != .tile && !s.inSequence h && !s.named k p) := by
  rcases State.signs_cases (s := s) (k := k) (h := h) (p := p) cls with ⟨bytes, rfl, rfl, read⟩ | plain
  · rw [State.signs_of_hello read]
    simp only []
    split <;> rfl
  · rw [plain]
    rfl

theorem Signs.first_of_gap {g : Signs} (gap : g.gap = true) : g.first = some .gap := by
  rw [Signs.first, gap]
  rfl

/-- R83: a current HELLO with equal parameters that holds the station PRESENT and shows another table. -/
def State.helloDiffers (s : State) (c : Cell) : Bool :=
  s.isCurrent .hello c && s.paramsMatch (helloOf c.payload) &&
    (helloOf c.payload).present.getLsbD s.own.val && (helloOf c.payload).digest != tableDigest s.claims.table

theorem State.helloDiffers_of_current {c : Cell} (current : s.isCurrent .hello c = true) :
    s.helloDiffers c = (s.paramsMatch (helloOf c.payload) &&
      ((helloOf c.payload).present.getLsbD s.own.val && (helloOf c.payload).digest != tableDigest s.claims.table)) := by
  rw [State.helloDiffers, current, Bool.true_and, Bool.and_assoc]

theorem State.helloDiffers_of_not_current {c : Cell} (current : ¬ s.isCurrent .hello c = true) :
    s.helloDiffers c = false := by
  rw [State.helloDiffers, Bool.eq_false_of_not_eq_true current]
  rfl

/-- R83: the digest of a HELLO heard out of sequence, so from a PRESENT sender. -/
theorem State.signs_digestDiffers {c : CellClass} (header : c.header? = some h) (kind : Kind.ofCode h.kind = some k)
    (out : s.inSequence h = false) :
    (s.signs k (frameClass s.frame.number h.frame) h c.payload? (s.present h.sender)
      (s.rosterAt h.sender).sequence).digestDiffers =
      match (generalizing := false) c with
      | .heard c => s.helloDiffers c
      | _ => false := by
  have present : s.present h.sender = true := by
    rw [State.inSequence_eq] at out
    simp only [Bool.not_eq_false', Bool.and_eq_true] at out
    exact out.1
  cases c with
  | damaged => cases header
  | headerHeard h' =>
    show (s.signs k _ h none _ _).digestDiffers = false
    rw [State.signs_of_inert _ fun _ _ => usable_none _ _]
    rfl
  | heard c =>
    cases header
    by_cases current : s.isCurrent .hello c = true
    · obtain ⟨hello, frame, sized⟩ := State.isCurrent_iff.1 current
      cases kind.symm.trans hello
      have read : usable .hello (some c.payload) c.header.length.toNat = some c.payload := by
        rw [usable_heard hello, sized]
        rfl
      rw [frameClass_current_iff.2 frame]
      show (s.signs .hello .current c.header (some c.payload) _ _).digestDiffers = s.helloDiffers c
      rw [State.signs_of_hello read, State.helloDiffers_of_current current, present]
      dsimp only
      cases s.paramsMatch (helloOf c.payload) <;> rfl
    · have plain := State.signs_cases (s := s) (k := k) (h := c.header) (p := some c.payload)
        (frameClass s.frame.number c.header.frame)
      rcases plain with ⟨bytes, rfl, same, read⟩ | plain
      · rw [usable_heard kind] at read
        refine absurd (State.isCurrent_iff.2 ⟨kind, frameClass_current_iff.1 same, ?_⟩) current
        cases sized : malformed c with
        | false => rfl
        | true => simp [sized] at read
      · show (s.signs k _ c.header (some c.payload) _ _).digestDiffers = s.helloDiffers c
        rw [plain, State.helloDiffers_of_not_current current]
        rfl

theorem State.sequenced_count (f : Counters → Counters) : (s.count f).sequenced k h = (s.sequenced k h).count f := by
  cases k <;> rfl

theorem State.planCell_observing (j : Judged) (kind : Kind.ofCode h.kind = some k) (other : h.sender ≠ s.own) :
    (s.afterLink j).planCell h p none =
      (((s.observing j k h p).count (countSigns (s.cellSigns k h p none))).suspected
        (s.cellSigns k h p none).first).kindRules
        k (frameClass s.frame.number h.frame) h p none := by
  rw [State.planCell_of_known (s := s.afterLink j) kind fun _ => other, State.sequenced_count]
  rfl

theorem State.planCell_observing_suspect (j : Judged) (kind : Kind.ofCode h.kind = some k) (other : h.sender ≠ s.own)
    (suspect : s.membership.state = .suspect) :
    (s.afterLink j).planCell h p none =
      (s.observing j k h p).kindRules k (frameClass s.frame.number h.frame) h p none := by
  rw [State.planCell_observing j kind other, State.cellSigns_suspect suspect]
  rfl

/-- R80, R85: GAP is counted, the station enters SUSPECT, and the kind's rules follow. -/
theorem State.planCell_gap (j : Judged) (kind : Kind.ofCode h.kind = some k) (other : h.sender ≠ s.own)
    (member : s.membership.state = .member) (gap : (s.cellSigns k h p none).gap = true) :
    (s.afterLink j).planCell h p none =
      (((s.count (countSigns (s.cellSigns k h p none))).enterSuspect .gap).afterLink j).planCell h p none := by
  have number (g : Signs) : ((s.count (countSigns g)).enterSuspect .gap).frame.number = s.frame.number := by simp
  have other' (g : Signs) : h.sender ≠ ((s.count (countSigns g)).enterSuspect .gap).own := by
    simpa [State.own] using other
  rw [State.planCell_observing_suspect j kind (other' _) (State.enterSuspect_state _ _), number,
    State.planCell_observing j kind other, Signs.first_of_gap gap, ← State.observing_enterSuspect member]
  rfl

/-! ### Cells that are recorded only -/

theorem State.kindRules_query (cls : FrameClass) {bytes : List Byte} (read : usable .query p h.length.toNat = some bytes) :
    s.kindRules .query cls h p own = s.queryCell h.sender own.isSome := by
  unfold State.kindRules
  rw [read]
  cases cls <;> rfl

theorem State.kindRules_dump (cls : FrameClass) (bytes : List Byte) :
    s.kindRules .dump cls h (some bytes) own = s.dumpCell h bytes own.isSome := by
  cases cls <;> rfl

theorem State.queryCell_suspect (suspect : s.membership.state = .suspect) (i : Station) : s.queryCell i false = s := by
  simp [State.queryCell, State.isMember, suspect]

theorem State.dumpCell_unreadable {bytes : List Byte} (unreadable : dumpOf bytes = none) : s.dumpCell h bytes false = s := by
  rw [State.dumpCell, unreadable]
  rfl

theorem State.dumpCell_unnamed {bytes : List Byte} (suspect : s.membership.state = .suspect)
    (unnamed : ∀ d ∈ dumpOf bytes, d.names s.own = false) : s.dumpCell h bytes false = s := by
  cases read : dumpOf bytes with
  | none => exact State.dumpCell_unreadable read
  | some d => simp [State.dumpCell, read, State.isMember, suspect, unnamed d read]

/-- The cell of kind `k` with these bytes has rules that take nothing: it is malformed or lost, an unreadable DUMP, or, at
a SUSPECT station, a QUERY or a DUMP that names another. -/
def State.takesNothing (s : State) (k : Kind) (h : Header) (p : Option (List Byte)) : Prop :=
  usable k p h.length.toNat = none ∨ (k = .dump ∧ ∃ bytes, p = some bytes ∧ dumpOf bytes = none) ∨
    (s.membership.state = .suspect ∧ (k = .query ∨
      (k = .dump ∧ ∃ bytes, p = some bytes ∧ ∀ d ∈ dumpOf bytes, d.names s.own = false)))

theorem State.kindRules_nothing (notTile : k ≠ .tile) {cls : FrameClass} (current : k.classed = true → cls = .current)
    (nothing : s.takesNothing k h p) : s.kindRules k cls h p none = s := by
  rcases nothing with unusable | ⟨rfl, bytes, rfl, unreadable⟩ | ⟨suspect, rfl | ⟨rfl, bytes, rfl, unnamed⟩⟩
  · exact State.kindRules_unusable notTile unusable current
  · rw [State.kindRules_dump]
    exact State.dumpCell_unreadable unreadable
  · cases read : usable .query p h.length.toNat with
    | none => exact State.kindRules_unusable notTile read current
    | some bytes =>
      rw [State.kindRules_query cls read]
      exact State.queryCell_suspect suspect _
  · rw [State.kindRules_dump]
    exact State.dumpCell_unnamed suspect unnamed

theorem State.planCell_nothing (kind : Kind.ofCode h.kind = some k) (other : h.sender ≠ s.own) (notTile : k ≠ .tile)
    (current : k.classed = true → h.frame = s.frame.number)
    (quiet : s.membership.state = .suspect ∨
      (s.membership.state = .member ∧ s.inSequence h = true ∧ ¬ (p = none ∧ k ∈ [Kind.hello, .claim, .release])))
    (nothing : s.takesNothing k h p) : s.planCell h p none = s.recorded h := by
  have current (classed : k.classed = true) : frameClass s.frame.number h.frame = .current :=
    frameClass_current_iff.2 (current classed)
  rw [State.planCell_quiet kind other]
  · exact State.kindRules_nothing notTile current nothing
  · rintro rfl -
    rcases nothing with unusable | ⟨dump, -⟩ | ⟨-, query | ⟨dump, -⟩⟩
    · exact unusable
    · cases dump
    · cases query
    · cases dump
  · refine quiet.imp_right fun ⟨member, seq, heard⟩ => ⟨member, .inr seq, ?_, fun classed => ?_⟩
    · rw [lostSign]
      cases p with
      | none => cases k <;> simp at heard ⊢
      | some bytes => simp
    · rw [current classed]
      decide

end PlanCell

/-- Settles O19: GAP by the commuting of the entry into SUSPECT, the others by their kinds' rules. -/
theorem gapAndUnusableCells : Obligations.GapAndUnusableCells := by
  refine ⟨?_, ?_⟩
  · intro s levels h k listens member header other kind notTile out unnamed differs counted
    set p := (judgeLevels levels).cls.payload? with p_is
    have named : s.named k p = false := by
      refine State.named_of_unnamed fun bytes heard dump d read => ?_
      cases cls : (judgeLevels levels).cls with
      | heard c =>
        rw [cls] at unnamed
        rw [p_is, cls] at heard
        cases heard
        exact unnamed c rfl dump d read
      | _ => rw [p_is, cls] at heard; cases heard
    have gap : (s.cellSigns k h p none).gap = true := by
      rw [State.cellSigns_member member, State.signs_gap, out, named]
      simp [notTile]
    have digest : (s.cellSigns k h p none).digestDiffers = differs := by
      rw [State.cellSigns_member member]
      exact State.signs_digestDiffers header kind out
    have counts : s.count (countSigns (s.cellSigns k h p none)) = counted := by
      refine congrArg s.count (funext fun c => ?_)
      rw [countSigns, gap, digest]
      cases differs <;> rfl
    have other' : h.sender ≠ (counted.enterSuspect .gap).own := by
      simpa [State.own, counted] using other
    have listens' : (counted.enterSuspect .gap).listens = true := by
      rw [← listens]
      simp [State.listens, counted]
    rw [exec_plan_peer listens (.inl member) header other,
      exec_plan_peer listens' (.inr (State.enterSuspect_state _ _)) header other',
      State.planCell_gap _ kind other member gap, counts]
  · intro s levels h listens inPlan header other lost unusable unasked recordedOnly
    rw [exec_plan_peer listens inPlan header other]
    refine congrArg (fun t : State => Host.Outcome.next t.settleAttempts) ?_
    have recorded (k : Kind) (kind : Kind.ofCode h.kind = some k) (notTile : k ≠ .tile)
        (quiet : s.membership.state = .suspect ∨
          (s.inSequence h = true ∧ ¬ (lost = true ∧ k ∈ [Kind.hello, .claim, .release])))
        (nothing : (unusable = true ∧ (k ∈ [Kind.query, .dump] ∨ h.frame = s.frame.number)) ∨
          (unasked = true ∧ s.membership.state = .suspect)) :
        (s.afterLink (judgeLevels levels)).planCell h (judgeLevels levels).cls.payload? none =
          (s.afterLink (judgeLevels levels)).recorded h := by
      have nothing' : s.takesNothing k h (judgeLevels levels).cls.payload? ∧
        (k.classed = true → h.frame = s.frame.number) := by
        cases cls : (judgeLevels levels).cls with
        | damaged => rw [cls] at header; cases header
        | headerHeard h' =>
          simp only [unusable, unasked, cls, true_and, Bool.false_eq_true, false_and, or_false] at nothing
          exact ⟨.inl (usable_none _ _), fun classed => nothing.resolve_left (Kind.classed_iff.1 classed)⟩
        | heard c =>
          rw [cls] at header
          cases header
          simp only [unusable, unasked, cls, kind, Bool.or_eq_true, Bool.and_eq_true, beq_iff_eq,
            Option.some.injEq] at nothing
          rcases nothing with ⟨malformed | ⟨rfl, unreadable⟩, frame⟩ | ⟨rfl | ⟨rfl, unnamed⟩, suspect⟩
          · refine ⟨.inl ?_, fun classed => frame.resolve_left (Kind.classed_iff.1 classed)⟩
            exact (usable_heard kind).trans (if_pos malformed)
          · exact ⟨.inr (.inl ⟨rfl, _, rfl, Option.isNone_iff_eq_none.1 unreadable⟩), fun classed => by cases classed⟩
          · exact ⟨.inr (.inr ⟨suspect, .inl rfl⟩), fun classed => by cases classed⟩
          · refine ⟨.inr (.inr ⟨suspect, .inr ⟨rfl, _, rfl, ?_⟩⟩), fun classed => by cases classed⟩
            simpa [Option.all_eq_true] using unnamed
      refine State.planCell_nothing (s := s.afterLink _) kind other notTile nothing'.2 ?_ nothing'.1
      rcases inPlan with member | suspect
      · rcases quiet with suspect | ⟨seq, heard⟩
        · exact .inl suspect
        · refine .inr ⟨member, seq, fun ⟨absent, lossy⟩ => heard ⟨?_, lossy⟩⟩
          cases cls : (judgeLevels levels).cls with
          | heard c => rw [cls] at absent; cases absent
          | _ => simp only [lost, cls]
      · exact .inl suspect
    cases kind : Kind.ofCode h.kind with
    | none => exact State.planCell_of_unknown kind
    | some k =>
      rw [kind] at recordedOnly
      cases k with
      | tile => exact recordedOnly.elim
      | _ => exact recorded _ kind (by decide) recordedOnly.1 recordedOnly.2

end Sys2Proof.Machine
end

section
set_option Elab.async false
/-! O21: a current HELLO (R64, R68, R69, R79, R83). -/

namespace Sys2Proof.Machine

section Hello

variable {s : State} {c : Cell} {levels : List Level}

theorem State.paramsMatch_iff {b : HelloBody} : s.paramsMatch b = true ↔
    b.width.toNat = strapWidth s.strap.words ∧ b.height.toNat = strapHeight s.strap.words ∧
      b.rosterTimeout.toNat = strapRosterTimeout s.strap.words := by
  simp [State.paramsMatch, State.rosterTimeout, and_assoc]

theorem State.usable_of_current {k : Kind} (current : s.isCurrent k c = true) :
    usable k (some c.payload) c.header.length.toNat = some c.payload := by
  obtain ⟨kind, -, sized⟩ := State.isCurrent_iff.1 current
  rw [usable_heard kind, sized]
  rfl

/-- R69, R83: what a MEMBER sees in a current HELLO in sequence. -/
theorem State.cellSigns_hello (current : s.isCurrent .hello c = true) (member : s.membership.state = .member)
    (seq : s.inSequence c.header = true) :
    s.cellSigns .hello c.header (some c.payload) none =
      let b := helloOf c.payload
      let differs := b.present.getLsbD s.own.val && b.digest != tableDigest s.claims.table
      if s.present c.header.sender && s.paramsMatch b then
        ⟨false, false, false, !b.present.getLsbD s.own.val && s.present s.own,
          differs && c.header.sender.val < s.own.val, differs⟩
      else Signs.none := by
  have quiet : s.headerSigns .hello .current c.header (some c.payload) = Signs.none :=
    State.headerSigns_quiet (.inr seq) rfl fun _ => by decide
  obtain ⟨-, frame, -⟩ := State.isCurrent_iff.1 current
  rw [State.cellSigns_member member, frameClass_current_iff.2 frame,
    State.signs_of_hello (State.usable_of_current current), quiet]
  rfl

theorem State.count_noSigns : s.count (countSigns Signs.none) = s := rfl

theorem State.suspected_noSigns : s.suspected Signs.none.first = s := rfl

theorem State.currentCell_hello (h : Header) (bytes : Option (List Byte)) (own : Option Flight) :
    s.currentCell .hello h bytes own = s := by
  cases bytes <;> rfl

theorem Signs.first_compared (omitted digest differs : Bool) :
    Signs.first ⟨false, false, false, omitted, digest, differs⟩ =
      if omitted then some .omitted else if digest then some .digest else Option.none := by
  simp [Signs.first]

theorem State.count_compared (omitted digest differs : Bool) :
    s.count (countSigns ⟨false, false, false, omitted, digest, differs⟩) =
      if differs then s.count fun k => { k with digestMismatch := satAdd k.digestMismatch 1 } else s := by
  cases differs <;> rfl

/-- R79: OMITTED before DIGEST, and the digest that differs is counted. -/
theorem State.suspected_compared (omitted differs lower : Bool) :
    (s.count (countSigns ⟨false, false, false, omitted, differs && lower, differs⟩)).suspected
      (Signs.first ⟨false, false, false, omitted, differs && lower, differs⟩) =
      let counted := if differs then s.count fun k => { k with digestMismatch := satAdd k.digestMismatch 1 } else s
      if omitted then counted.enterSuspect .omitted
      else if differs && lower then counted.enterSuspect .digest else counted := by
  rw [Signs.first_compared, State.count_compared]
  cases omitted
  · cases differs && lower <;> simp [State.suspected]
  · simp [State.suspected]

/-- A current HELLO of another station: its part of the roster, the signs, and no rule of its own. -/
theorem State.planCell_hello (current : s.isCurrent .hello c = true) (other : c.header.sender ≠ s.own) :
    s.planCell c.header (some c.payload) none =
      State.suspected (((s.live c.header.sender).peerHello c.header.sender (helloOf c.payload)).count
        (countSigns (s.cellSigns .hello c.header (some c.payload) none)) |>.sequenced .hello c.header)
        (s.cellSigns .hello c.header (some c.payload) none).first := by
  obtain ⟨kind, frame, -⟩ := State.isCurrent_iff.1 current
  have part (t : State) : t.helloPart .hello .current c.header (some c.payload) false =
      t.peerHello c.header.sender (helloOf c.payload) := by
    unfold State.helloPart
    rw [State.usable_of_current current]
    rfl
  rw [State.planCell_of_known kind fun _ => other, frameClass_current_iff.2 frame, State.kindRules_current rfl,
    State.currentCell_hello, Option.isSome_none, part]

/-- R69: a PRESENT sender's HELLO is compared; a HELLO whose parameters differ is counted. -/
theorem State.peerHello_of_present {i : Station} {b : HelloBody} (heard : s.present i = true ∨ s.paramsMatch b = false) :
    s.peerHello i b =
      if s.paramsMatch b then s else s.count fun k => { k with paramsMismatch := satAdd k.paramsMismatch 1 } := by
  unfold State.peerHello
  split
  · next agrees =>
    rcases heard with present | differs
    · rw [if_pos present]
    · rw [differs] at agrees; cases agrees
  · rfl

theorem State.live_paramsMatch (i : Station) (b : HelloBody) : (s.live i).paramsMatch b = s.paramsMatch b := by
  rw [State.live_eq]
  rfl

/-- A current HELLO that admits nobody is recorded, and counted when its parameters differ. -/
theorem State.hello_recorded (current : s.isCurrent .hello c = true)
    (heard : s.present c.header.sender = true ∨ s.paramsMatch (helloOf c.payload) = false) :
    ((s.live c.header.sender).peerHello c.header.sender (helloOf c.payload)).sequenced .hello c.header =
      if s.paramsMatch (helloOf c.payload) then s.recorded c.header
      else (s.recorded c.header).count fun k => { k with paramsMismatch := satAdd k.paramsMismatch 1 } := by
  obtain ⟨kind, -, -⟩ := State.isCurrent_iff.1 current
  rw [State.peerHello_of_present (by rw [State.live_present, State.live_paramsMatch]; exact heard), State.live_paramsMatch,
    State.recorded_of_known kind]
  split
  · rfl
  · exact State.sequenced_count _

/-! ### The own HELLO -/

theorem exec_cellEnd_own {f : Flight} (ends : s.ends f .matched = true) (whole : (judgeLevels levels).cls ≠ .damaged) :
    exec (.cellEnd levels) s =
      .next ((s.afterOwn f).units f.cell.header (some f.cell.payload) (some f)).settleAttempts :=
  congrArg Host.Outcome.next (State.cellEnds_own ends whole)

theorem exec_plan_own {f : Flight} (ends : s.ends f .matched = true) (whole : (judgeLevels levels).cls ≠ .damaged)
    (inPlan : s.membership.state = .member ∨ s.membership.state = .suspect) :
    exec (.cellEnd levels) s =
      .next ((s.afterOwn f).planCell f.cell.header (some f.cell.payload) (some f)).settleAttempts := by
  have state : (s.afterOwn f).membership.state = s.membership.state := rfl
  have duplicate : (s.afterOwn f).duplicate f.cell.header (some f) = false := by simp [State.duplicate]
  rw [exec_cellEnd_own ends whole, State.units, state, duplicate]
  rcases inPlan with state | state <;> rw [state] <;> rfl

/-- An own cell has no sign, and but for a HELLO no rule before its kind's. -/
theorem State.planCell_own {f : Flight} {k : Kind} {h : Header} {p : Option (List Byte)} (kind : Kind.ofCode h.kind = some k)
    (notHello : k ≠ .hello) :
    s.planCell h p (some f) = (s.recorded h).kindRules k (frameClass s.frame.number h.frame) h p (some f) :=
  State.planCell_of_no_signs kind (fun own => by cases own) (fun hello => absurd hello notHello) (State.cellSigns_own f)

theorem State.recordSequence_serves (i : Station) (q : Byte) (n : SlotNo) :
    (s.recordSequence i q).serves n = s.serves n := by
  have present : (s.recordSequence i q).present s.own = s.present s.own := by
    rw [State.recordSequence, State.setRoster_present]
    split
    · next same => rw [same]; rfl
    · rfl
  have own : (s.recordSequence i q).own = s.own := rfl
  rw [State.serves, own, present]
  rfl

theorem State.serveClaims_recordSequence (i : Station) (q : Byte) :
    s.serveClaims.recordSequence i q = (s.recordSequence i q).serveClaims := by
  rw [State.serveClaims_eq, State.serveClaims_eq]
  simp only [State.recordSequence_serves]
  rfl

theorem State.setRoster_recordSequence (i : Station) (q : Byte) (present heard : Bool) (age : Nat) :
    (s.setRoster i ⟨present, age, heard, (s.rosterAt i).sequence⟩).recordSequence i q =
      (s.recordSequence i q).setRoster i ⟨present, age, heard, ((s.recordSequence i q).rosterAt i).sequence⟩ := by
  simp [State.recordSequence, State.setRoster_setRoster, State.setRoster_rosterAt]

/-- R64, R20: the own HELLO. -/
theorem State.ownHello_sequenced (h : Header) (own : h.sender = s.own) :
    s.ownHello.sequenced .hello h =
      if s.present s.own then s.sequenced .hello h
      else ((s.sequenced .hello h).setRoster s.own
        { (s.sequenced .hello h).rosterAt s.own with present := true, age := 0 }).serveClaims := by
  unfold State.ownHello
  split
  · rfl
  · show State.recordSequence _ h.sender h.sequence = _
    rw [State.serveClaims_recordSequence, own, State.setRoster_recordSequence]
    simp [State.sequenced, State.recordSequence, own, State.setRoster_rosterAt]

theorem State.planCell_ownHello {f : Flight} (current : s.isCurrent .hello c = true) (own : c.header.sender = s.own) :
    s.planCell c.header (some c.payload) (some f) =
      if s.present s.own then s.recorded c.header
      else ((s.recorded c.header).setRoster s.own
        { (s.recorded c.header).rosterAt s.own with present := true, age := 0 }).serveClaims := by
  obtain ⟨kind, frame, -⟩ := State.isCurrent_iff.1 current
  have part (t : State) : t.helloPart .hello .current c.header (some c.payload) true = t.ownHello := by
    unfold State.helloPart
    rw [State.usable_of_current current]
    rfl
  have liveOwn : (s.live c.header.sender).own = s.own := by simp [State.own]
  rw [State.planCell_of_known kind (fun own => by cases own), frameClass_current_iff.2 frame, State.kindRules_current rfl,
    State.cellSigns_own, State.count_noSigns, State.suspected_noSigns, State.currentCell_hello, Option.isSome_some, part,
    State.ownHello_sequenced c.header (own.trans liveOwn.symm), liveOwn, State.live_present,
    State.recorded_of_known kind]

/-- R69, R83, R79: the comparison, in the order of the triggers. -/
theorem State.planCell_compared (current : s.isCurrent .hello c = true) (other : c.header.sender ≠ s.own)
    (member : s.membership.state = .member) (seq : s.inSequence c.header = true)
    (present : s.present c.header.sender = true) :
    let b := helloOf c.payload
    let differs := (s.recorded c.header).count fun k => { k with digestMismatch := satAdd k.digestMismatch 1 }
    s.planCell c.header (some c.payload) none =
      if ¬ s.paramsMatch b = true then
        (s.recorded c.header).count fun k => { k with paramsMismatch := satAdd k.paramsMismatch 1 }
      else if b.present.getLsbD s.own.val = false then
        (if s.present s.own then (s.recorded c.header).enterSuspect .omitted else s.recorded c.header)
      else if b.digest = tableDigest s.claims.table then s.recorded c.header
      else if c.header.sender.val < s.own.val then differs.enterSuspect .digest else differs := by
  intro b differs
  rw [State.planCell_hello current other, State.sequenced_count, State.hello_recorded current (.inl present),
    State.cellSigns_hello current member seq, present]
  dsimp only
  by_cases agrees : s.paramsMatch b = true
  · rw [if_pos agrees, if_neg (not_not_intro agrees), show (true && s.paramsMatch (helloOf c.payload)) = true from agrees,
      if_pos rfl]
    rw [State.suspected_compared]
    dsimp only
    by_cases unheld : b.present.getLsbD s.own.val = false
    · rw [if_pos unheld, show (helloOf c.payload).present.getLsbD s.own.val = false from unheld]
      simp
    · have holds : (helloOf c.payload).present.getLsbD s.own.val = true := by simpa [b] using unheld
      rw [if_neg unheld, holds]
      by_cases same : b.digest = tableDigest s.claims.table
      · simp [if_pos same, show (helloOf c.payload).digest = _ from same]
      · have ne : ((helloOf c.payload).digest != tableDigest s.claims.table) = true := bne_iff_ne.2 same
        rw [if_neg same, ne]
        simp [differs]
  · rw [if_pos agrees, show s.paramsMatch (helloOf c.payload) = false from Bool.eq_false_of_not_eq_true agrees,
      Bool.and_false, if_neg (by decide), if_neg (by decide), State.count_noSigns, State.suspected_noSigns]

/-- R68: the HELLO that admits its sender. -/
theorem State.planCell_admits (current : s.isCurrent .hello c = true) (other : c.header.sender ≠ s.own)
    (inPlan : s.membership.state = .member ∨ s.membership.state = .suspect) (absent : s.present c.header.sender = false)
    (agrees : s.paramsMatch (helloOf c.payload) = true) :
    s.planCell c.header (some c.payload) none = s.setRoster c.header.sender ⟨true, 0, true, c.header.sequence⟩ := by
  have signs : s.cellSigns .hello c.header (some c.payload) none = Signs.none := by
    rcases inPlan with member | suspect
    · rw [State.cellSigns_hello current member (by simp [State.inSequence, absent]), absent]
      rfl
    · exact State.cellSigns_suspect suspect
  have admitted : (s.live c.header.sender).peerHello c.header.sender (helloOf c.payload) =
      (s.live c.header.sender).setRoster c.header.sender
        { (s.live c.header.sender).rosterAt c.header.sender with present := true, age := 0, heard := true } := by
    rw [State.peerHello, State.live_paramsMatch, State.live_present, if_pos agrees, absent, if_neg (by decide)]
  rw [State.planCell_hello current other, signs, State.count_noSigns, State.suspected_noSigns, admitted]
  show State.recordSequence _ _ _ = _
  rw [State.recordSequence, State.setRoster_setRoster, State.setRoster_rosterAt, if_pos rfl, State.live_eq,
    State.setRoster_setRoster]

/-- R69, R85: a HELLO that is not compared and admits nobody. -/
theorem State.planCell_notCompared (current : s.isCurrent .hello c = true) (other : c.header.sender ≠ s.own)
    (unheeded : (s.membership.state = .suspect ∧ s.present c.header.sender = true) ∨
      ((s.membership.state = .member ∨ s.membership.state = .suspect) ∧ s.present c.header.sender = false ∧
        s.paramsMatch (helloOf c.payload) = false)) :
    s.planCell c.header (some c.payload) none =
      if s.paramsMatch (helloOf c.payload) then s.recorded c.header
      else (s.recorded c.header).count fun k => { k with paramsMismatch := satAdd k.paramsMismatch 1 } := by
  have signs : s.cellSigns .hello c.header (some c.payload) none = Signs.none := by
    rcases unheeded with ⟨suspect, -⟩ | ⟨member | suspect, absent, -⟩
    · exact State.cellSigns_suspect suspect
    · rw [State.cellSigns_hello current member (by simp [State.inSequence, absent]), absent]
      rfl
    · exact State.cellSigns_suspect suspect
  rw [State.planCell_hello current other, signs, State.count_noSigns, State.suspected_noSigns, State.hello_recorded current]
  exact unheeded.imp And.right fun ⟨_, _, differs⟩ => differs

end Hello

/-- Settles O21: the comparison, the admission, the count, and the own HELLO. -/
theorem helloIsHeard : Obligations.HelloIsHeard := by
  have header {levels : List Level} {c : Cell} (heard : (judgeLevels levels).cls = .heard c) :
      (judgeLevels levels).cls.header? = some c.header ∧ (judgeLevels levels).cls.payload? = some c.payload := by
    rw [heard]
    exact ⟨rfl, rfl⟩
  refine ⟨?_, ?_, ?_, ?_⟩
  · intro s levels c listens member heard other current seq present b u agrees differs
    have agrees_iff : agrees ↔ s.paramsMatch b = true := State.paramsMatch_iff.symm
    rw [exec_plan_peer listens (.inl member) (header heard).1 other, (header heard).2,
      State.planCell_compared (s := s.afterLink _) current other member seq present]
    simp only [agrees_iff]
    rfl
  · intro s levels c listens inPlan heard other current absent agrees
    rw [exec_plan_peer listens inPlan (header heard).1 other, (header heard).2,
      State.planCell_admits (s := s.afterLink _) current other inPlan absent agrees]
  · intro s levels c listens heard other current unheeded u
    have inPlan : s.membership.state = .member ∨ s.membership.state = .suspect :=
      unheeded.elim (fun suspect => .inr suspect.1) And.left
    rw [exec_plan_peer listens inPlan (header heard).1 other, (header heard).2,
      State.planCell_notCompared (s := s.afterLink _) current other unheeded]
    rfl
  · intro s levels f ends whole member current own
    rw [exec_plan_own ends whole (.inl member), State.planCell_ownHello (s := s.afterOwn f) current own]
    rfl

end Sys2Proof.Machine
end

section
set_option Elab.async false
/-! O22, O30: QUERYs, DUMPs that do not name the station, and CLOSEs (R42, R87, R88, R91). -/

namespace Sys2Proof.Machine

section Kinds

variable {s : State} {c : Cell} {levels : List Level} {h : Header} {k : Kind}

theorem CellClass.heard_header {levels : List Level} {c : Cell} (heard : (judgeLevels levels).cls = .heard c) :
    (judgeLevels levels).cls.header? = some c.header ∧ (judgeLevels levels).cls.payload? = some c.payload := by
  rw [heard]
  exact ⟨rfl, rfl⟩

/-- A heard cell of another station at a MEMBER or SUSPECT station. -/
theorem exec_plan_heard (listens : s.listens = true) (inPlan : s.membership.state = .member ∨ s.membership.state = .suspect)
    (heard : (judgeLevels levels).cls = .heard c) (other : c.header.sender ≠ s.own) :
    exec (.cellEnd levels) s = .next
      ((s.afterLink (judgeLevels levels)).planCell c.header (some c.payload) none).settleAttempts := by
  rw [exec_plan_peer listens inPlan (CellClass.heard_header heard).1 other, (CellClass.heard_header heard).2]

/-- The station takes control cells as they come: a MEMBER those in sequence, a SUSPECT station all. -/
def State.takes (s : State) (h : Header) : Prop :=
  (s.membership.state = .member ∧ s.inSequence h = true) ∨ s.membership.state = .suspect

theorem State.takes.inPlan (takes : s.takes h) : s.membership.state = .member ∨ s.membership.state = .suspect :=
  takes.imp_left And.left

/-- A QUERY or DUMP that is taken goes to its rules. -/
theorem State.planCell_unclassed {p : Option (List Byte)} (kind : Kind.ofCode h.kind = some k) (other : h.sender ≠ s.own)
    (unclassed : k.classed = false) (takes : s.takes h) :
    s.planCell h p none = (s.recorded h).kindRules k (frameClass s.frame.number h.frame) h p none := by
  refine State.planCell_quiet kind other (fun hello => by rw [hello] at unclassed; cases unclassed) ?_
  rcases takes with ⟨member, seq⟩ | suspect
  · refine .inr ⟨member, .inr seq, ?_, fun classed => by rw [classed] at unclassed; cases unclassed⟩
    cases k <;> first | rfl | cases unclassed
  · exact .inl suspect

/-- A current control cell that is taken, but a HELLO, goes to its kind's rules. -/
theorem State.planCell_current (current : s.isCurrent k c = true) (other : c.header.sender ≠ s.own)
    (classed : k.classed = true)
    (notHello : k ≠ .hello) (takes : s.takes c.header) :
    s.planCell c.header (some c.payload) none = (s.recorded c.header).currentCell k c.header (some c.payload) none := by
  obtain ⟨kind, frame, -⟩ := State.isCurrent_iff.1 current
  have same := frameClass_current_iff.2 frame
  rw [State.planCell_quiet kind other fun hello => absurd hello notHello, same, State.kindRules_current classed,
    State.usable_of_current current]
  rcases takes with ⟨member, seq⟩ | suspect
  · exact .inr ⟨member, .inr seq, by simp [lostSign], fun _ => by rw [same]; decide⟩
  · exact .inl suspect

theorem State.planCell_ownCurrent {f : Flight} (current : s.isCurrent k f.cell = true) (classed : k.classed = true)
    (notHello : k ≠ .hello) :
    s.planCell f.cell.header (some f.cell.payload) (some f) =
      (s.recorded f.cell.header).currentCell k f.cell.header (some f.cell.payload) (some f) := by
  obtain ⟨kind, frame, -⟩ := State.isCurrent_iff.1 current
  rw [State.planCell_own kind notHello, frameClass_current_iff.2 frame, State.kindRules_current classed,
    State.usable_of_current current]

/-! ### QUERY -/

theorem State.enqueue_eq (k : QueueKind) :
    s.enqueue k = { s with queue := if s.queues k then s.queue else s.queue ++ [⟨k, none, false⟩] } := by
  unfold State.enqueue
  split <;> rfl

theorem State.queues_dump : s.queues .dump = s.queue.any fun c => decide (c.kind = .dump) := by
  unfold State.queues
  congr 1
  funext c
  obtain ⟨k, g, m⟩ := c
  cases k <;> simp [QueueKind.place, Fin.ext_iff] <;> omega

theorem State.answerQuery_eq (i : Station) :
    s.answerQuery i = { s with
      recovery := { s.recovery with dumpPending := stationOrder.filter fun j => j = i ∨ j ∈ s.recovery.dumpPending }
      queue := if s.queue.any (fun d => d.kind = .dump) then s.queue else s.queue ++ [⟨.dump, none, false⟩] } := by
  have asked : stationSet (fun j => j == i || s.recovery.dumpPending.contains j) =
      stationOrder.filter fun j => j = i ∨ j ∈ s.recovery.dumpPending :=
    List.filter_congr fun j _ => by by_cases same : j = i <;> simp [same]
  rw [State.answerQuery, asked, State.enqueue_eq, State.queues_dump]

/-! ### DUMP -/

/-- R91: what a DUMP's requesters leave of the queue. -/
theorem State.requestersServed_eq (d : DumpBody) :
    let rest := s.recovery.dumpPending.filter fun i => !d.names i
    let mine (x : QueuedCell) : Bool := rest.isEmpty && x.kind == .dump && !x.inFlight
    s.requestersServed d = { s with
      recovery := { s.recovery with dumpPending := rest }
      queue := s.queue.filter fun x => !mine x
      membership := { s.membership with
        sequence := s.membership.sequence - BitVec.ofNat 8 (s.queue.countP fun x => mine x && x.given.isSome) } } := by
  intro rest mine
  unfold State.requestersServed
  simp only []
  split
  · next empty =>
    have mine_eq : mine = fun x => x.kind == .dump && !x.inFlight := by
      funext x
      show (rest.isEmpty && _ && _) = _
      rw [show rest.isEmpty = true from empty, Bool.true_and]
    rw [mine_eq]
    rfl
  · next more =>
    have mine_eq : mine = fun _ => false := by
      funext x
      show (rest.isEmpty && _ && _) = _
      rw [Bool.eq_false_of_not_eq_true more]
      rfl
    have all : s.queue.filter (fun x => !mine x) = s.queue := by simp [mine_eq]
    have nobody : (s.queue.countP fun x => mine x && x.given.isSome) = 0 := by simp [mine_eq]
    rw [all, nobody, BitVec.sub_zero]

theorem State.requestersServed_count (d : DumpBody) (f : Counters → Counters) :
    (s.count f).requestersServed d = (s.requestersServed d).count f := by
  rw [State.requestersServed_eq, State.requestersServed_eq]
  rfl

theorem State.dumpCell_member {bytes : List Byte} {d : DumpBody} (member : s.membership.state = .member)
    (read : dumpOf bytes = some d) :
    s.dumpCell h bytes false = if d.names s.own then (s.requestersServed d).install h d else s.requestersServed d := by
  have own : (s.requestersServed d).own = s.own := by rw [State.requestersServed_eq]; rfl
  simp [State.dumpCell, read, State.isMember, member, own]

theorem State.dumpCell_own_member {bytes : List Byte} {d : DumpBody} (member : s.membership.state = .member)
    (read : dumpOf bytes = some d) (unnamed : d.names s.own = false) :
    s.dumpCell h bytes true =
      (s.requestersServed d).count fun c => { c with dumpsSent := satAdd c.dumpsSent 1 } := by
  have own (f : Counters → Counters) : ((s.count f).requestersServed d).own = s.own := by
    rw [State.requestersServed_eq]; rfl
  rw [← State.requestersServed_count]
  simp [State.dumpCell, read, State.isMember, member, own, unnamed]

/-! ### The own cell in SYNCING -/

theorem State.syncingCell_own_query {bytes : List Byte} (query : Kind.ofCode h.kind = some .query) :
    s.syncingCell h (some bytes) true = (s.recordFrame h.frame).setQueryTimer true := by
  have agrees : s.helloDisagrees h (some bytes) = false := by rw [State.helloDisagrees, query]
  simp [State.syncingCell, agrees, query]

end Kinds

/-- The cell of an obligation that is stated of a heard cell. -/
theorem CellClass.heard_of_mem {k : CellClass} {c : Cell}
    (heard : c ∈ (match k with
      | .heard c => some c
      | _ => none)) : k = .heard c := by
  cases k with
  | heard c' => cases heard; rfl
  | _ => cases heard

/-- Settles O22: QUERY and DUMP, of another station and the own one. -/
theorem queriesAndDumpsAreHeard : Obligations.QueriesAndDumpsAreHeard := by
  refine ⟨?_, ?_, ?_⟩
  · intro s levels c listens member heard other kind sized seq u
    rw [exec_plan_heard listens (.inl member) heard other,
      State.planCell_unclassed (s := s.afterLink _) kind other rfl (.inl ⟨member, seq⟩),
      State.kindRules_query _ (bytes := c.payload) (by rw [usable_heard kind, sized]; rfl)]
    have isMember : u.isMember = true := isMember_iff.2 member
    show Host.Outcome.next (State.settleAttempts (u.queryCell _ false)) = _
    rw [State.queryCell, if_pos isMember, if_neg (by decide), State.answerQuery_eq]
    rfl
  · intro s levels f ends whole kind sized u
    refine ⟨fun syncing => ?_, fun suspect => ?_⟩
    · have state : u.membership.state = .syncing := syncing
      have duplicate : u.duplicate f.cell.header (some f) = false := by simp [State.duplicate]
      rw [exec_cellEnd_own ends whole, State.units, state, duplicate]
      exact congrArg (fun t : State => Host.Outcome.next t.settleAttempts) (State.syncingCell_own_query kind)
    · have notMember : ¬ (u.recorded f.cell.header).isMember = true := by
        rw [isMember_iff]
        simp [State.recorded, u, suspect, State.afterOwn, State.afterLink]
      rw [exec_plan_own ends whole (.inr suspect), State.planCell_own (s := u) kind (by decide),
        State.kindRules_query _ (bytes := f.cell.payload) (by rw [usable_heard kind, sized]; rfl),
        State.queryCell, if_neg notMember]
      rfl
  · intro s levels f served
    refine ⟨?_, ?_⟩
    · intro c heard d read listens member other seq kind unnamed
      have heard := CellClass.heard_of_mem heard
      set u := (s.afterLink (judgeLevels levels)).recorded c.header
      have member_u : u.membership.state = .member := member
      rw [exec_plan_heard listens (.inl member) heard other,
        State.planCell_unclassed (s := s.afterLink _) kind other rfl (.inl ⟨member, seq⟩), State.kindRules_dump]
      show Host.Outcome.next (State.settleAttempts (u.dumpCell _ _ false)) = _
      rw [State.dumpCell_member member_u read, show d.names u.own = false from unnamed, if_neg (by decide),
        State.requestersServed_eq]
      rfl
    · intro d read ends whole member kind unnamed
      set u := (s.afterOwn f).recorded f.cell.header
      have member_u : u.membership.state = .member := member
      rw [exec_plan_own ends whole (.inl member), State.planCell_own (s := s.afterOwn f) kind (by decide),
        State.kindRules_dump]
      show Host.Outcome.next (State.settleAttempts (u.dumpCell _ _ true)) = _
      rw [State.dumpCell_own_member member_u read unnamed, State.requestersServed_eq]
      rfl

/-- Settles O30: a CLOSE's rule closes the frame. -/
theorem closeClosesTheFrame : Obligations.CloseClosesTheFrame := by
  intro s levels
  refine ⟨?_, ?_⟩
  · intro c heard listens takes other current
    have heard := CellClass.heard_of_mem heard
    rw [exec_plan_heard listens (State.takes.inPlan takes) heard other,
      State.planCell_current (s := s.afterLink _) current other rfl (by decide) takes]
    rfl
  · intro f _ ends whole member current
    rw [exec_plan_own ends whole (.inl member),
      State.planCell_ownCurrent (s := s.afterOwn f) current rfl (by decide)]
    rfl

end Sys2Proof.Machine
end

section
set_option Elab.async false
/-! O27, O28, O29, O31: a current CLAIM, RELEASE, TILE and BYE (R11 to R13, R21, R22, R25, R39 to R41, R73, R74). -/

namespace Sys2Proof.Machine

section Kinds

variable {s : State} {c : Cell} {levels : List Level} {h : Header} {k : Kind}

theorem State.recorded_present (i : Station) : (s.recorded h).present i = s.present i := by
  rw [State.recorded, State.setRoster_present]
  split
  · next same => rw [same]; rfl
  · rfl

theorem State.recorded_rosterAt (kind : Kind.ofCode h.kind = some k) (notTile : k ≠ .tile) :
    (s.recorded h).rosterAt h.sender = { s.rosterAt h.sender with
      heard := (s.rosterAt h.sender).heard || s.present h.sender, sequence := h.sequence } := by
  rw [State.recorded, State.setRoster_rosterAt, if_pos rfl, kind]
  cases k <;> first | rfl | contradiction

/-! ### TILE -/

theorem Header.tileSlot_eq : h.tileSlot = Fin.ofNat 4 (h.aux.toNat % 4) := by
  apply Fin.ext
  simp [Header.tileSlot, BitVec.extractLsb']

/-- R39, R40: a TILE with LAST of an outstanding key completes it. -/
theorem State.currentCell_tile {p : Option (List Byte)} {own : Option Flight} :
    let key : TileKey := ⟨h.sender, Fin.ofNat 4 (h.aux.toNat % 4)⟩
    let rest := s.frame.outstanding.filter fun k => k ≠ key
    let t := { s with frame := { s.frame with outstanding := rest } }
    s.currentCell .tile h p own =
      if h.flags.getLsbD 0 = true ∧ key ∈ s.frame.outstanding then (if rest = [] then t.closeFrame .last else t) else s := by
  intro key rest t
  have key_eq : (⟨h.sender, h.tileSlot⟩ : TileKey) = key := by rw [Header.tileSlot_eq]
  have rest_eq : (s.frame.outstanding.filter fun x => !(x == key)) = rest :=
    List.filter_congr fun x _ => by by_cases same : x = key <;> simp [same]
  have empty : rest.isEmpty = true ↔ rest = [] := List.isEmpty_iff
  have outstanding : s.isOutstanding key = true ↔ key ∈ s.frame.outstanding := List.contains_iff_mem
  have rule : s.currentCell .tile h p own = if h.last then s.completeTile key else s := by
    rw [← key_eq]
    cases p <;> rfl
  rw [rule]
  by_cases last : h.flags.getLsbD 0 = true
  · rw [if_pos (show h.last = true from last), State.completeTile]
    simp only [rest_eq, empty, outstanding, last, true_and]
    rfl
  · rw [if_neg (show ¬ h.last = true from last), if_neg fun both => last both.1]

/-! ### BYE -/

/-- R13, R41: what a BYE takes from the table and the outstanding set. -/
def State.byeTakes (s : State) (x : Station) : State :=
  let gone := s.claims.table.any fun e => e.owner = x ∧ e.state = .pending
  { s with
    claims := { s.claims with
      table := (s.claims.table.filter fun e => ¬ (e.owner = x ∧ e.state = .pending)).map fun e =>
        if e.owner = x then { e with state := .releasing } else e
      removalMark := s.claims.removalMark || gone }
    frame := { s.frame with outstanding := s.frame.outstanding.filter fun k => k.owner ≠ x } }

theorem byeRemoves_eq (x : Station) (e : Entry) : byeRemoves x e = decide (e.owner = x ∧ e.state = .pending) := by
  rw [byeRemoves, Bool.decide_and]
  congr 1

theorem State.byeTable_eq (x : Station) :
    { s.byeTable x with frame := { (s.byeTable x).frame with
      outstanding := s.frame.outstanding.filter fun k => !(k.owner == x) } } = s.byeTakes x := by
  have table : byeEntries s.claims.table x =
      (s.claims.table.filter fun e => ¬ (e.owner = x ∧ e.state = .pending)).map fun e =>
        if e.owner = x then { e with state := .releasing } else e := by
    simp only [byeEntries, byeRemoves_eq, beq_iff_eq, decide_not]
  have gone : s.claims.table.any (byeRemoves x) = s.claims.table.any fun e => e.owner = x ∧ e.state = .pending :=
    congrArg s.claims.table.any (funext (byeRemoves_eq x))
  have keys : (s.frame.outstanding.filter fun k => !(k.owner == x)) = s.frame.outstanding.filter fun k => k.owner ≠ x :=
    List.filter_congr fun k _ => by by_cases same : k.owner = x <;> simp [same]
  rw [State.byeTable, State.byeTakes, table, gone, keys]

/-- R41: the BYE takes the last outstanding keys. -/
def State.byeEmpties (s : State) (x : Station) : Bool :=
  s.frame.outstanding.any (fun k => k.owner = x) && s.frame.outstanding.all fun k => k.owner = x

theorem State.byeEmpties_eq (x : Station) :
    (s.frame.outstanding.any (fun k => k.owner == x) && (s.frame.outstanding.filter fun k => !(k.owner == x)).isEmpty) =
      s.byeEmpties x := by
  rw [State.byeEmpties]
  congr 1
  rw [Bool.eq_iff_iff, List.isEmpty_iff, List.filter_eq_nil_iff, List.all_eq_true]
  simp

/-- R13, R41, R73: another station's BYE. -/
theorem State.applyBye_peer (x : Station) :
    s.applyBye x false =
      let t := State.byeTakes (if s.present x then
        s.setRoster x { s.rosterAt x with age := s.rosterTimeout - 1, heard := false } else s) x
      if s.byeEmpties x then t.closeFrame .bye else t := by
  have commutes : (s.byeTakes x).byeRoster x = State.byeTakes (if s.present x then
      s.setRoster x { s.rosterAt x with age := s.rosterTimeout - 1, heard := false } else s) x := by
    have present : (s.byeTakes x).present x = s.present x := rfl
    rw [State.byeRoster, present]
    split <;> rfl
  rw [← commutes, ← State.byeTable_eq, ← State.byeEmpties_eq]
  rfl

/-- R74: the own BYE. -/
theorem State.applyBye_own (x : Station) :
    s.applyBye x true = (if s.byeEmpties x then (s.byeTakes x).closeFrame .bye else s.byeTakes x).enterLeft := by
  rw [← State.byeTable_eq, ← State.byeEmpties_eq]
  rfl

theorem State.enterLeft_eq :
    s.enterLeft = { s with
      store := []
      queue := []
      capture := { s.capture with contexts := tab4 fun _ => .idle }
      claims := ⟨[], false, tab4 fun n => { s.slotAt n with state := .off, startOn := false, offAfter := false }⟩
      frame := ⟨0, [], false, 0⟩
      membership := { s.membership with
        state := .left, roster := tab16 fun _ => ⟨false, 0, false, 0⟩, silence := .stopped }
      recovery := ⟨false, 0, []⟩
      ladder := { s.ladder with attempts := 0 }
      port := (s.deposit (.state .left .bye)).port } := by
  rw [State.enterLeft, State.deposit_eq, State.deposit_port (s := s) (t := s.clearPlan.setState .left) rfl]
  rfl

theorem State.settleAttempts_enterLeft : s.enterLeft.settleAttempts = s.enterLeft := by
  rw [State.enterLeft_eq, State.settleAttempts]
  split <;> rfl

end Kinds

/-- Settles O29: the TILE's rule, another station's and the own one. -/
theorem tileCompletesItsTile : Obligations.TileCompletesItsTile := by
  refine ⟨?_, ?_⟩
  · intro s levels h listens inPlan header other kind frame
    have current : frameClass (s.afterLink (judgeLevels levels)).frame.number h.frame = .current :=
      frameClass_current_iff.2 frame
    rw [exec_plan_peer listens inPlan header other, State.planCell_quiet (s := s.afterLink _) kind other
      (fun no => by cases no),
      current, State.kindRules_current rfl, State.currentCell_tile]
    · rfl
    · rcases inPlan with member | suspect
      · exact .inr ⟨member, .inl rfl, rfl, fun _ => by rw [current]; decide⟩
      · exact .inl suspect
  · intro s levels f ends whole store inPlan own kind frame h u
    have current : frameClass (s.afterOwn f).frame.number f.cell.header.frame = .current :=
      frameClass_current_iff.2 frame
    have u_eq : (s.afterOwn f).recorded f.cell.header = u := by
      apply State.ext_fields
      case link => exact congrArg (fun i => { s.link with busy := false, flight := none, lastSender := some i }) own
      case ladder =>
        have rank : rankOf s.own (some f.cell.header.sender) = 15 := by
          rw [own]
          apply Fin.ext
          rw [rankOf_eq]
          simp only [Fin.val_ofNat]
          omega
        exact congrArg (fun r => (⟨.running none, r, 0⟩ : LadderUnit)) rank
      case store =>
        show (match f.source with
          | .queue _ => s.store
          | .store => s.store.drop 1) = s.store.drop 1
        rw [store]
      case queue =>
        show (match f.source with
          | .queue k => s.queue.eraseP fun c => c.kind == k
          | .store => s.queue) = s.queue
        rw [store]
      all_goals rfl
    rw [exec_plan_own ends whole inPlan, State.planCell_own (s := s.afterOwn f) kind (by decide), current,
      State.kindRules_current rfl, State.currentCell_tile, u_eq]
    rfl

/-- Settles O31: the BYE's rule, another station's and the own one. -/
theorem byeLeaves : Obligations.ByeLeaves := by
  intro s levels effect emptied
  refine ⟨?_, ?_⟩
  · intro c heard listens takes other current
    have heard := CellClass.heard_of_mem heard
    intro x u t
    have present : u.present x = s.present x := State.recorded_present (s := s.afterLink _) x
    obtain ⟨kind, -, -⟩ := State.isCurrent_iff.1 current
    have taken : State.byeTakes (if u.present x then
        u.setRoster x { u.rosterAt x with age := u.rosterTimeout - 1, heard := false } else u) x = t := by
      have entry : u.rosterAt x = _ := State.recorded_rosterAt (s := s.afterLink _) kind (by decide)
      rw [present, entry]
      by_cases isPresent : s.present x = true
      · have entryPresent : (s.rosterAt x).present = true := isPresent
        simp only [t, if_pos isPresent]
        show State.byeTakes (u.setRoster x ⟨(s.rosterAt x).present, _, _, _⟩) x = _
        rw [entryPresent]
        rfl
      · simp only [t, if_neg isPresent]
        rfl
    rw [exec_plan_heard listens (State.takes.inPlan takes) heard other,
      State.planCell_current (s := s.afterLink _) current other rfl (by decide) takes]
    show Host.Outcome.next (State.settleAttempts (u.applyBye x false)) = _
    rw [State.applyBye_peer]
    dsimp only
    rw [taken]
    rfl
  · intro f _ ends whole member own current t left
    set u := (s.afterOwn f).recorded f.cell.header
    rw [exec_plan_own ends whole (.inl member), State.planCell_ownCurrent (s := s.afterOwn f) current rfl (by decide)]
    show Host.Outcome.next (State.settleAttempts (u.applyBye f.cell.header.sender true)) = _
    rw [own, State.applyBye_own, State.settleAttempts_enterLeft, State.enterLeft_eq]
    rfl

end Sys2Proof.Machine
end

section
set_option Elab.async false
/-! O27, O28: a current CLAIM and RELEASE, another station's and the own one (R11, R12, R21, R22, R25). -/

namespace Sys2Proof.Machine

section Kinds

variable {s : State} {c : Cell} {levels : List Level} {h : Header} {k : Kind}

/-! ### CLAIM -/

theorem State.judgeClaim_recorded (sender : Station) (b : ClaimBody) :
    (s.recorded h).judgeClaim sender b = s.judgeClaim sender b := by
  rw [State.judgeClaim, State.recorded_present]
  rfl

/-- R11, R6: another station's CLAIM. -/
theorem State.applyClaim_peer (sender : Station) (b : ClaimBody) :
    s.applyClaim sender b none =
      if s.judgeClaim sender b = none then { s with claims := { s.claims with
        table := s.claims.table ++ [⟨sender, Fin.ofNat 4 b.slot.toNat, Format.ofBits b.format.toNat, .pending,
          b.region, none⟩] } }
      else s := by
  unfold State.applyClaim
  cases s.judgeClaim sender b with
  | none => rfl
  | some why => rfl

/-- R21, R22: the own slot's change, its mark cleared, with its notice. -/
def State.claimOutcome (s : State) (n : SlotNo) (st : SlotState) (why : SlotCause) : State :=
  (s.setSlot n { s.slotAt n with state := st, offAfter := false }).deposit (.slot n st why)

theorem State.enqueue_deposit (k : QueueKind) (x : Notice) :
    (s.enqueue k).deposit x = { s.deposit x with queue := (s.enqueue k).queue } := by
  rw [State.deposit_eq, s.deposit_eq, State.deposit_port (s := s) (State.enqueue_port _ _)]
  rw [State.enqueue_eq]

theorem State.claimAccepted_eq (n : SlotNo) :
    s.claimAccepted n =
      if (s.slotAt n).offAfter then
        { s.claimOutcome n .dropping .accepted with queue := (s.enqueue (.release n)).queue }
      else s.claimOutcome n .active .accepted := by
  unfold State.claimAccepted
  split
  · rw [State.enqueue_deposit, State.enqueue_eq, State.enqueue_eq]
    rfl
  · next unmarked =>
    rw [State.setSlotState, State.claimOutcome, ← Bool.eq_false_of_not_eq_true unmarked]

/-- R11, R21, R22: the own CLAIM. -/
theorem State.applyClaim_own (sender : Station) (b : ClaimBody) (crop : Crop) :
    let n : SlotNo := Fin.ofNat 4 b.slot.toNat
    let grown : State := { s with claims := { s.claims with
      table := s.claims.table ++ [⟨sender, n, Format.ofBits b.format.toNat, .pending, b.region, some ⟨crop, n⟩⟩] } }
    s.applyClaim sender b (some crop) =
      match s.judgeClaim sender b with
      | none =>
        if (s.slotAt n).offAfter then
          { grown.claimOutcome n .dropping .accepted with queue := (s.enqueue (.release n)).queue }
        else grown.claimOutcome n .active .accepted
      | some .full => s.claimOutcome n (if (s.slotAt n).offAfter then .off else .waiting .full) .full
      | some .overlap => s.claimOutcome n (if (s.slotAt n).offAfter then .off else .waiting .overlap) .overlap
      | some _ =>
        State.serveClaims { s.claimOutcome n (refusedState (Config.refusedSlot s.free))
          (.unlisted (Config.refusedCauseCode s.free)) with free := s.free + 1 } := by
  intro n grown
  unfold State.applyClaim
  cases s.judgeClaim sender b with
  | none =>
    show State.claimAccepted grown n = _
    rw [State.claimAccepted_eq, State.enqueue_eq, State.enqueue_eq]
    rfl
  | some why =>
    show s.claimRefused n why = _
    have free (st : SlotState) (x : SlotCause) : (s.claimOutcome n st x).free = s.free := by
      rw [State.claimOutcome, State.deposit_eq]
      rfl
    have unlisted : State.serveClaims { s.claimOutcome n (refusedState (Config.refusedSlot s.free))
          (.unlisted (Config.refusedCauseCode s.free)) with
          free := (s.claimOutcome n (refusedState (Config.refusedSlot s.free))
            (.unlisted (Config.refusedCauseCode s.free))).free + 1 } =
        State.serveClaims { s.claimOutcome n (refusedState (Config.refusedSlot s.free))
          (.unlisted (Config.refusedCauseCode s.free)) with free := s.free + 1 } := by rw [free]
    cases why with
    | full => rfl
    | overlap => rfl
    | _ => exact unlisted

/-! ### RELEASE -/

/-- R12: the entry that a RELEASE names, by owner and slot. -/
theorem entry_key_beq (e : Entry) (i : Station) (n : SlotNo) :
    (e.key == (⟨i, n⟩ : TileKey)) = (e.owner == i && e.slot == n) := by
  rw [Bool.eq_iff_iff, beq_iff_eq, Entry.key, TileKey.mk.injEq]
  simp

/-- R12, R6: a RELEASE in the table, of a station that has no slot to it. -/
theorem State.applyRelease_peer (i : Station) (slot : Byte) :
    let hit (e : Entry) : Bool := e.owner == i && e.slot.val == slot.toNat
    s.applyRelease i slot false =
      match (s.claims.table.find? hit).map Entry.state with
      | some .pending => { s with claims := { s.claims with
          table := s.claims.table.filter (fun e => !hit e), removalMark := true } }
      | some .held => { s with claims := { s.claims with
          table := s.claims.table.map fun e => if hit e then { e with state := .releasing } else e } }
      | _ => s := by
  intro hit
  unfold State.applyRelease
  split
  · next large =>
    have nobody : s.claims.table.find? hit = none := by
      rw [List.find?_eq_none]
      intro e _
      have := e.slot.isLt
      simp only [hit, Bool.and_eq_true, beq_iff_eq, not_and]
      omega
    rw [nobody]
    rfl
  · next small =>
    have hit_eq (e : Entry) : (e.key == (⟨i, Fin.ofNat 4 slot.toNat⟩ : TileKey)) = hit e := by
      have same : (e.slot == (Fin.ofNat 4 slot.toNat : SlotNo)) = (e.slot.val == slot.toNat) := by
        rw [Bool.eq_iff_iff, beq_iff_eq, beq_iff_eq, Fin.ext_iff, Fin.val_ofNat]
        omega
      rw [entry_key_beq, same]
    simp only [State.entryOf, withoutKey, releaseKey, hit_eq]
    cases s.claims.table.find? hit with
    | none => rfl
    | some e => cases state : e.state <;> simp [state]

theorem State.deposit_put_claims (k : ClaimUnit) (x : Notice) :
    State.deposit { s with claims := k } x = { s.deposit x with claims := k } := by
  rw [State.deposit_eq, s.deposit_eq, State.deposit_port (s := s) (t := { s with claims := k }) rfl]

/-- R12, R25: the own RELEASE, its slot DROPPING. -/
theorem State.applyRelease_own (i : Station) (n : SlotNo) (dropping : (s.slotAt n).state = .dropping) :
    let hit (e : Entry) : Bool := e.owner == i && e.slot == n
    let off := (s.setSlotState n .off).deposit (.slot n .off .released)
    s.applyRelease i (BitVec.ofNat 8 n.val) true =
      match (s.claims.table.find? hit).map Entry.state with
      | none => off
      | some .pending => { off with claims := { off.claims with
          table := s.claims.table.filter (fun e => !hit e), removalMark := true } }
      | some .held => { s with claims := { s.claims with
          table := s.claims.table.map fun e => if hit e then { e with state := .releasing } else e } }
      | some .releasing => s := by
  intro hit off
  have slot : (BitVec.ofNat 8 n.val).toNat = n.val := by
    have := n.isLt
    simp only [BitVec.toNat_ofNat]
    omega
  have same : (Fin.ofNat 4 n.val : SlotNo) = n := Fin.ext (Nat.mod_eq_of_lt n.isLt)
  have hit_eq (e : Entry) : (e.key == (⟨i, n⟩ : TileKey)) = hit e := entry_key_beq e i n
  have released (k : ClaimUnit) (slots : k.slots = s.claims.slots) :
      State.slotReleased { s with claims := k } n =
        (State.setSlotState { s with claims := k } n .off).deposit (.slot n .off .released) := by
    have dropping : (State.slotAt { s with claims := k } n).state = .dropping := by
      show (k.slots[n]).state = _
      rw [slots]
      exact dropping
    rw [State.slotReleased, dropping]
    rfl
  unfold State.applyRelease
  rw [slot, if_neg (by have := n.isLt; omega), same]
  simp only [State.entryOf, withoutKey, releaseKey, hit_eq]
  cases s.claims.table.find? hit with
  | none => exact released s.claims rfl
  | some e =>
    cases state : e.state with
    | pending =>
      simp only [state, Option.map_some, if_true]
      refine (released ⟨s.claims.table.filter fun e => !hit e, true, s.claims.slots⟩ rfl).trans ?_
      have kept : off.claims = (s.setSlotState n .off).claims := State.deposit_claims ..
      rw [kept]
      exact State.deposit_put_claims (s := s.setSlotState n .off) _ _
    | held => simp [state]
    | releasing => simp [state]

end Kinds

/-- Settles O27: the CLAIM's rule, another station's and the own one. -/
theorem claimIsHeard : Obligations.ClaimIsHeard := by
  refine ⟨?_, ?_⟩
  · intro s levels c listens takes heard other current b u
    rw [exec_plan_heard listens (State.takes.inPlan takes) heard other,
      State.planCell_current (s := s.afterLink _) current other rfl (by decide) takes]
    show Host.Outcome.next (State.settleAttempts (u.applyClaim _ b none)) = _
    rw [State.applyClaim_peer, State.judgeClaim_recorded]
    rfl
  · intro s levels f ends whole member current h b n u sl put grown
    rw [exec_plan_own ends whole (.inl member), State.planCell_ownCurrent (s := s.afterOwn f) current rfl (by decide)]
    show Host.Outcome.next (State.settleAttempts (u.applyClaim h.sender b (some f.crop))) = _
    rw [State.applyClaim_own]
    rfl

/-- Settles O28: the RELEASE's rule, another station's and the own one. -/
theorem releaseIsHeard : Obligations.ReleaseIsHeard := by
  refine ⟨?_, ?_⟩
  · intro s levels c listens takes heard other current slot u hit
    rw [exec_plan_heard listens (State.takes.inPlan takes) heard other,
      State.planCell_current (s := s.afterLink _) current other rfl (by decide) takes]
    show Host.Outcome.next (State.settleAttempts (u.applyRelease _ _ false)) = _
    rw [State.applyRelease_peer]
    rfl
  · intro s levels f n ends whole member current payload own dropping u hit off
    rw [exec_plan_own ends whole (.inl member), State.planCell_ownCurrent (s := s.afterOwn f) current rfl (by decide),
      payload]
    show Host.Outcome.next (State.settleAttempts (u.applyRelease f.cell.header.sender (BitVec.ofNat 8 n.val) true)) = _
    rw [own, State.applyRelease_own (s := u) _ _ dropping]
    rfl

end Sys2Proof.Machine
end

section
set_option Elab.async false
/-! O32: the own cell lost (R20, R23, R112, R113, R129, R159, R164). -/

namespace Sys2Proof.Machine

section Lost

variable {s : State}

/-- R162: a slot's CLAIM and RELEASE share a place. -/
theorem State.queues_claim (n : SlotNo) :
    s.queues (.claim n) = s.queue.any fun c => c.kind == .claim n || c.kind == .release n := by
  rw [State.queues]
  congr 1
  funext c
  obtain ⟨k, g, m⟩ := c
  rw [Bool.eq_iff_iff]
  cases k <;> simp [QueueKind.place, Fin.ext_iff] <;> omega

/-- R23: the slots in `off` go OFF, and their CLAIMs leave the queue. -/
def State.offWithdrawn (s : State) (off : SlotNo → Bool) : State :=
  let leaves (c : QueuedCell) : Bool := slotOrder.any fun n => off n && c.kind == .claim n
  { s with
    queue := s.queue.filter fun c => !leaves c
    membership := { s.membership with
      sequence := s.membership.sequence - BitVec.ofNat 8 (s.queue.countP fun c => leaves c && c.given.isSome) }
    claims := { s.claims with slots := tab4 fun n => if (off n) = true then
      { s.slotAt n with state := .off, offAfter := false } else s.slotAt n }
    port := (s.depositAll ((slotOrder.filter off).map fun n => Notice.slot n .off .withdrawn)).port }

theorem State.offWithdrawn_none : s.offWithdrawn (fun _ => false) = s := by
  have slots : (tab4 fun n => s.slotAt n) = s.claims.slots := tab4_eta _
  have nobody : (slotOrder.any fun _ => false) = false := rfl
  simp [State.offWithdrawn, slots, nobody, State.depositAll]

theorem filter_slot_eq (n : SlotNo) : (slotOrder.filter fun m => m == n) = [n] := by
  revert n
  decide

theorem any_slot_eq (n : SlotNo) (p : SlotNo → Bool) : (slotOrder.any fun m => m == n && p m) = p n := by
  rw [Bool.eq_iff_iff, List.any_eq_true]
  constructor
  · rintro ⟨m, -, is⟩
    simp only [Bool.and_eq_true, beq_iff_eq] at is
    exact is.1 ▸ is.2
  · intro is
    exact ⟨n, mem_slotOrder n, by simp [is]⟩

theorem State.withdrawOffAfter_eq (n : SlotNo) (landed : ∀ c ∈ s.queue, c.inFlight = false) :
    s.withdrawOffAfter n = s.offWithdrawn fun m => m == n && (s.slotAt n).offAfter := by
  unfold State.withdrawOffAfter
  cases marked : (s.slotAt n).offAfter with
  | false =>
    simp only [Bool.and_false]
    exact State.offWithdrawn_none.symm
  | true =>
    simp only [if_true, Bool.and_true]
    have gone : ∀ c ∈ s.queue, (c.kind == .claim n && !c.inFlight) = slotOrder.any fun m => m == n &&
      c.kind == .claim m := by
      intro c mem
      rw [landed c mem, any_slot_eq n fun m => c.kind == .claim m]
      simp
    rw [State.deposit_eq]
    apply State.ext_fields
    case queue => exact List.filter_congr fun c mem => by simp only [gone c mem]
    case membership =>
      have counted : (s.queue.countP fun c => (c.kind == .claim n && !c.inFlight) && c.given.isSome) =
          s.queue.countP fun c => (slotOrder.any fun m => m == n && c.kind == .claim m) && c.given.isSome :=
        List.countP_congr fun c mem => by rw [gone c mem]
      exact congrArg (fun k => { s.membership with sequence := s.membership.sequence - BitVec.ofNat 8 k }) counted
    case claims =>
      refine congrArg (fun v => { s.claims with slots := v }) (State.slots_eq (s := s.setSlot n _) fun m => ?_)
      rw [State.setSlot_slotAt]
      by_cases same : m = n
      · subst same
        simp
      · simp [same]
    case port =>
      show _ = (s.depositAll ((slotOrder.filter fun m => m == n).map fun m => Notice.slot m .off .withdrawn)).port
      rw [filter_slot_eq]
      exact State.deposit_port (s := s) (t := (s.withdraw fun k => k == .claim n).setSlot n
        { s.slotAt n with state := .off, offAfter := false }) rfl _
    all_goals rfl

/-- R20: the slots that are served behind a withdrawal. -/
def State.servedBehind (s : State) (off : SlotNo → Bool) (n : SlotNo) : Bool :=
  s.isMember && !off n && (s.slotAt n).state == .wanted && (s.present s.own || s.queue.any fun c => c.kind == .hello)

/-- R20, R23: slot n behind the withdrawal and the serving. -/
def State.slotBehind (s : State) (off : SlotNo → Bool) (n : SlotNo) : Slot :=
  if off n then { s.slotAt n with state := .off, offAfter := false }
  else if s.servedBehind off n then { s.slotAt n with state := .proposed }
  else s.slotAt n

variable {off : SlotNo → Bool}

theorem State.offWithdrawn_slotAt (n : SlotNo) :
    (s.offWithdrawn off).slotAt n = if off n then { s.slotAt n with state := .off, offAfter := false } else s.slotAt n :=
  tab4_get _ n

/-- A cell that is no CLAIM of a slot in `off` stays. -/
theorem State.offWithdrawn_any {p : QueuedCell → Bool}
    (kept : ∀ c ∈ s.queue, p c = true → ∀ n, off n = true → c.kind ≠ .claim n) :
    (s.offWithdrawn off).queue.any p = s.queue.any p := by
  show (s.queue.filter _).any p = _
  rw [Bool.eq_iff_iff, List.any_eq_true, List.any_eq_true]
  constructor
  · rintro ⟨c, mem, is⟩
    exact ⟨c, (List.mem_filter.1 mem).1, is⟩
  · rintro ⟨c, mem, is⟩
    refine ⟨c, List.mem_filter.2 ⟨mem, ?_⟩, is⟩
    rw [Bool.not_eq_true', List.any_eq_false]
    intro n _
    cases out : off n with
    | false => simp
    | true => simp [kept c mem is n out]

theorem State.offWithdrawn_serves (landed : ∀ c ∈ s.queue, c.inFlight = false) (n : SlotNo) :
    (s.offWithdrawn off).serves n = s.servedBehind off n := by
  have hello : (s.offWithdrawn off).helloWaits = s.queue.any fun c => c.kind == .hello := by
    rw [State.helloWaits, State.offWithdrawn_any fun c _ is n _ => by rintro claim; simp [claim] at is, Bool.eq_iff_iff,
      List.any_eq_true, List.any_eq_true]
    exact exists_congr fun c => and_congr_right fun mem => by simp [landed c mem]
  have member : (s.offWithdrawn off).isMember = s.isMember := rfl
  have present : (s.offWithdrawn off).present (s.offWithdrawn off).own = s.present s.own := rfl
  rw [State.serves, State.servedBehind, hello, member, present, State.offWithdrawn_slotAt]
  cases off n with
  | true => simp
  | false => simp [Bool.and_comm]

theorem State.offWithdrawn_serveClaims (landed : ∀ c ∈ s.queue, c.inFlight = false) :
    (s.offWithdrawn off).serveClaims = { s.offWithdrawn off with
      queue := (s.offWithdrawn off).queue ++ (slotOrder.filter fun n => s.servedBehind off n &&
        !s.queue.any fun c => c.kind == .claim n || c.kind == .release n).map fun n => ⟨.claim n, none, false⟩
      claims := { s.claims with slots := tab4 (s.slotBehind off) } } := by
  have free (n : SlotNo) : (s.servedBehind off n && !(s.offWithdrawn off).queues (.claim n)) =
      (s.servedBehind off n && !s.queue.any fun c => c.kind == .claim n || c.kind == .release n) := by
    cases out : off n with
    | true => simp [State.servedBehind, out]
    | false =>
      rw [State.queues_claim, State.offWithdrawn_any]
      intro c _ is m outM claim
      have same : m = n := by simpa [claim] using is
      rw [same, out] at outM
      cases outM
  have slots (n : SlotNo) : (if s.servedBehind off n then
      { (s.offWithdrawn off).slotAt n with state := .proposed } else (s.offWithdrawn off).slotAt n) =
      s.slotBehind off n := by
    unfold State.slotBehind
    rw [State.offWithdrawn_slotAt]
    cases out : off n with
    | true => simp [State.servedBehind, out]
    | false => rfl
  rw [State.serveClaims_eq]
  simp only [State.offWithdrawn_serves landed, free, slots]
  apply State.ext_fields
  case queue => exact congrArg ((s.offWithdrawn off).queue ++ ·) (List.map_map ..)
  all_goals rfl

/-- R20, R23: what a lost cell that was sent from `src` leaves, short of the fourth loss. -/
theorem State.lostCell_eq (src : CellSource) (landed : ∀ c ∈ s.queue, c.inFlight = false) :
    let off (n : SlotNo) : Bool := src == .queue (.claim n) && (s.slotAt n).offAfter
    (match src with
      | .queue (.claim n) => (s.withdrawOffAfter n).serveClaims
      | .queue _ => s.serveClaims
      | .store => s) = if src = .store then s else (s.offWithdrawn off).serveClaims := by
  intro off
  have nothing (notClaim : ∀ n, src ≠ .queue (.claim n)) : s.offWithdrawn off = s := by
    have off_eq : off = fun _ => false := by
      funext n
      simp [off, notClaim n]
    rw [off_eq, State.offWithdrawn_none]
  cases src with
  | store => rfl
  | queue k =>
    rw [if_neg (by simp)]
    cases k with
    | claim n =>
      have off_eq : off = fun m => m == n && (s.slotAt n).offAfter := by
        funext m
        by_cases same : m = n
        · subst same; simp [off]
        · have other : (CellSource.queue (.claim n) == .queue (.claim m)) = false := by simpa using Ne.symm same
          simp [off, other, same]
      rw [off_eq, ← State.withdrawOffAfter_eq n landed]
    | _ => rw [nothing (by simp)]

end Lost

/-- Settles O32: the link's part, the marks, and behind them the withdrawal and the slots served. -/
theorem ownCellIsAborted : Obligations.OwnCellIsAborted := by
  intro s levels f lost unmuted k base off leaves serves claims slot
  set j := judgeLevels levels with j_is
  obtain ⟨⟨inUse, idle, flight, -⟩, isLost, aborted⟩ : (s.link.receiver = .inUse ∧ s.link.transmitter = .idle ∧
      s.link.flight = some f ∧ True) ∧ f.isLost j = true ∧ ownJudged (some f) j = .damagedBy .aborted := by
    rcases lost with ends | ⟨ends, damaged⟩
    · obtain ⟨inUse, idle, flight, report⟩ := State.ends_iff.1 ends
      exact ⟨⟨inUse, idle, flight, trivial⟩, Flight.isLost_iff.2 (.inl (by simp [report])), by simp [ownJudged, report]⟩
    · obtain ⟨inUse, idle, flight, report⟩ := State.ends_iff.1 ends
      refine ⟨⟨inUse, idle, flight, trivial⟩, Flight.isLost_iff.2 (.inr (by rw [damaged])), ?_⟩
      simp [ownJudged, report, damaged]
      rfl
  have cleared : (s.afterLost f j).marksCleared (f.report == .mismatched) = base := by
    rw [State.afterLost, aborted]
    apply State.ext_fields
    case port =>
      have collisions : (if f.report = Report.mismatched then satAdd k.collisions 1 else k.collisions) =
          if (f.report == Report.mismatched) = true then satAdd k.collisions 1 else k.collisions := by simp
      show _ = { s.port with counters := { k with
        aborted := satAdd k.aborted 1
        collisions := if f.report = Report.mismatched then satAdd k.collisions 1 else k.collisions } }
      rw [collisions]
      cases f.report == Report.mismatched <;> rfl
    all_goals rfl
  have landed : ∀ c ∈ base.queue, c.inFlight = false := by
    intro c mem
    obtain ⟨d, -, rfl⟩ := List.mem_map.1 mem
    rfl
  have few : (s.afterLost f j).ladder.attempts = s.ladder.attempts := rfl
  show Host.Outcome.next (s.cellEnds j) = _
  rw [State.cellEnds_lost inUse idle flight isLost, State.ownCellAborted_eq, cleared, few]
  by_cases fourth : 3 ≤ s.ladder.attempts
  · rw [if_pos (by omega), if_pos fourth, State.settleAttempts_enterMuted]
  · rw [if_neg (by omega), if_neg fourth]
    refine congrArg (fun t : State => Host.Outcome.next t.settleAttempts) ?_
    have kinds (p : QueueKind → Bool) : (base.queue.any fun c => p c.kind) = s.queue.any fun c => p c.kind := List.any_map
    have counted : (base.queue.countP fun c => leaves c && c.given.isSome) =
        s.queue.countP fun c => leaves c && c.given.isSome := List.countP_map
    have free (n : SlotNo) : (base.queue.any fun c => c.kind == .claim n || c.kind == .release n) =
        s.queue.any fun c => c.kind == .claim n || c.kind == .release n := kinds fun k => k == .claim n || k == .release n
    have slots_eq : s.claims.slots = tab4 s.slotAt := State.slots_eq s fun _ => rfl
    refine (State.lostCell_eq (s := base) f.source landed).trans ?_
    show (if f.source = .store then base else (base.offWithdrawn off).serveClaims) = _
    by_cases store : f.source = .store
    · have off_eq : off = fun _ => false := by
        funext n
        simp [off, store]
      have slot_eq : slot = s.slotAt := by
        funext n
        simp [slot, off, serves, store]
      have claims_eq : claims = [] := by
        rw [List.filter_eq_nil_iff]
        simp [serves, store]
      have leaves_eq : leaves = fun _ => false := by
        funext c
        simp [leaves, off_eq]
      have all : base.queue.filter (fun c => !leaves c) = base.queue := by simp [leaves_eq]
      have nobody : (s.queue.countP fun c => leaves c && c.given.isSome) = 0 := by simp [leaves_eq]
      rw [if_pos store, all, nobody, BitVec.sub_zero, off_eq, claims_eq, slot_eq, ← slots_eq, List.map_nil, List.append_nil]
      rfl
    · have behind (n : SlotNo) : base.servedBehind off n = serves n := by
        have control : (f.source != .store) = true := by simpa using store
        simp only [State.servedBehind, serves, control, Bool.true_and, kinds (· == .hello)]
        rfl
      have slot_eq : base.slotBehind off = slot := by
        funext n
        simp only [State.slotBehind, slot, behind]
        rfl
      rw [if_neg store, State.offWithdrawn_serveClaims landed, slot_eq]
      simp only [behind, free]
      apply State.ext_fields
      case membership =>
        exact congrArg (fun n => { base.membership with sequence := s.membership.sequence - BitVec.ofNat 8 n }) counted
      all_goals rfl

end Sys2Proof.Machine
end

section
set_option Elab.async false
/-! O34: what a close and the open behind it make of the plan, the capture side and the notices (R15, R43, R44, R136, R146,
R147, R160). -/

namespace Sys2Proof.Machine

section Close

variable (s : State)

/-! ### The open step of the table, with its slots -/

/-- R15: the mark at the slots' pass. -/
def State.markAtOpen : Bool := s.claims.removalMark || !(s.claims.table.filter s.leavesAtOpen).isEmpty

/-- R15: slot n's own entry leaves. -/
def State.goneAtOpen (n : SlotNo) : Bool := (s.claims.table.filter s.leavesAtOpen).any fun e => e.key == s.ownKey n

theorem State.markAtOpen_eq : s.markAtOpen = (s.claims.removalMark || s.claims.table.any s.leavesAtOpen) := by
  have some_leaves : (!(s.claims.table.filter s.leavesAtOpen).isEmpty) = s.claims.table.any s.leavesAtOpen := by
    rw [Bool.eq_iff_iff, Bool.not_eq_true', List.isEmpty_eq_false_iff_exists_mem, List.any_eq_true]
    exact exists_congr fun e => List.mem_filter
  rw [State.markAtOpen, some_leaves]

theorem State.goneAtOpen_eq (n : SlotNo) :
    s.goneAtOpen n = s.claims.table.any fun e => s.leavesAtOpen e && e.key == s.ownKey n :=
  List.any_filter

/-- R15, R24, R25: slot n behind the pass. -/
def State.wakedSlot (n : SlotNo) : Slot :=
  { s.slotAt n with state := passedState s.markAtOpen (s.goneAtOpen n) (s.slotAt n).state }

/-- R30: the notices of the pass, in slot order. -/
def State.wakeNotes : List Notice :=
  slotOrder.flatMap fun n => passedNotice s.markAtOpen (s.goneAtOpen n) n (s.slotAt n).state

/-- R63, R15: the roster aged and the table opened. -/
def State.opened : State :=
  { s with
    membership := { s.membership with roster := s.agedRoster }
    claims := { s.claims with table := s.openedTable, removalMark := false } }

/-- The same at the slots' pass, the mark as it is there. -/
def State.opening : State :=
  { s with
    membership := { s.membership with roster := s.agedRoster }
    claims := { s.claims with table := s.openedTable, removalMark := s.markAtOpen } }

theorem State.opening_passes :
    s.opening.forSlots (slotPass s.markAtOpen (s.claims.table.filter s.leavesAtOpen)) =
      s.opening.planEdit s.wakedSlot [] s.wakeNotes :=
  s.opening.slotPasses_eq _ _

theorem State.opening_unmarked :
    { s.opening.planEdit s.wakedSlot [] s.wakeNotes with
      claims := { (s.opening.planEdit s.wakedSlot [] s.wakeNotes).claims with removalMark := false } } =
      s.opened.planEdit s.wakedSlot [] s.wakeNotes := by
  apply State.ext_fields
  case port => exact State.depositAll_port (s := s.opened) (t := s.opening) rfl _
  all_goals rfl

theorem State.openTable_eq :
    s.openTable = (s.opened.planEdit s.wakedSlot [] s.wakeNotes).serveReleases.serveClaims := by
  rw [← s.opening_unmarked, ← s.opening_passes]
  rfl

/-! ### The notices -/

theorem State.serveReleases_port : s.serveReleases.port = s.port := by
  rw [State.serveReleases_eq]
  rfl

theorem State.serveClaims_port : s.serveClaims.port = s.port := by
  rw [State.serveClaims_eq]
  rfl

theorem State.openPlan_port : s.openPlan.port = (s.depositAll s.wakeNotes).port := by
  have schedule (t : State) : t.scheduleHello.port = t.port := by
    unfold State.scheduleHello
    split
    · rw [State.serveClaims_port, State.enqueue_port]
    · rfl
  have frame (t : State) : t.openFrame.port = t.port := rfl
  rw [State.openPlan, schedule, frame, State.openTable_eq, State.serveClaims_port, State.serveReleases_port]
  exact State.depositAll_port (s := s) (t := s.opened) rfl _

end Close

/-! ### The cuts -/

section Cuts

variable {s : State} (f : Word)

/-- The port behind cuts with these notices, `n` of them. -/
def State.cutPort (s : State) (notes : List Notice) (n : Nat) : PortUnit :=
  { (s.depositAll notes).port with counters := { s.port.counters with tilesCut := satAdd s.port.counters.tilesCut n } }

theorem State.depositAll_counters (l : List Notice) : (s.depositAll l).port.counters = s.port.counters := by
  induction l generalizing s with
  | nil => rfl
  | cons x rest ih => exact ih.trans (s.deposit_port_counters x)

theorem State.depositAll_reply (l : List Notice) : (s.depositAll l).port.reply = s.port.reply := by
  induction l generalizing s with
  | nil => rfl
  | cons x rest ih => exact ih.trans (s.deposit_port_reply x)

theorem cutSlot_port (n : SlotNo) :
    (cutSlot f s n).port = if s.unfinished f n then s.cutPort [.cut n f] 1 else s.port := by
  unfold cutSlot
  split
  · have same : (((s.purge fun e => e.slot == n && e.frame == f).setContext n .idle).deposit (.cut n f)).port =
        (s.deposit (.cut n f)).port :=
      State.deposit_port (s := s) (t := (s.purge fun e => e.slot == n && e.frame == f).setContext n .idle) rfl _
    rw [State.count, same, State.cutPort, ← s.deposit_port_counters (.cut n f)]
    rfl
  · rfl

theorem cutSlot_unfinished {n m : SlotNo} (other : m ≠ n) : (cutSlot f s n).unfinished f m = s.unfinished f m := by
  have context : (cutSlot f s n).contextAt m = s.contextAt m := by
    unfold cutSlot
    split
    · rw [State.contextAt_congr (s := (s.purge fun e => e.slot == n && e.frame == f).setContext n .idle) (by simp),
        State.setContext_contextAt, if_neg other]
      rfl
    · rfl
  have store : ((cutSlot f s n).store.any fun e => e.slot == m && e.frame == f) =
      s.store.any fun e => e.slot == m && e.frame == f := by
    rw [cutSlot_store_eq, List.any_filter]
    congr 1
    funext e
    by_cases is : e.slot = m
    · simp [is, other]
    · simp [is]
  rw [State.unfinished, context, store, State.unfinished]

theorem State.cutPort_cutPort {t : State} {notes : List Notice} {n : Nat} (port : t.port = s.cutPort notes n)
    (notes' : List Notice) (n' : Nat) : t.cutPort notes' n' = s.cutPort (notes ++ notes') (n + n') := by
  have deposits : (t.depositAll notes').port =
      { ((s.depositAll notes).depositAll notes').port with counters := t.port.counters } :=
    State.depositAll_counted (s := s.depositAll notes) (by rw [port]; rfl) notes'
  rw [State.cutPort, State.cutPort, deposits, State.depositAll_append, port, State.cutPort]
  simp only [satAdd_satAdd]

/-- R146: the cuts over a list of slots, in its order. -/
theorem foldl_cutSlot_port (l : List SlotNo) (nodup : l.Nodup) :
    (l.foldl (cutSlot f) s).port =
      s.cutPort ((l.filter (s.unfinished f)).map fun n => .cut n f) (l.countP (s.unfinished f)) := by
  induction l generalizing s with
  | nil =>
    rw [List.countP_nil, List.filter_nil, List.map_nil, State.cutPort, satAdd_zero]
    rfl
  | cons n rest ih =>
    obtain ⟨new, nodup⟩ := List.nodup_cons.1 nodup
    have later (m : SlotNo) (mem : m ∈ rest) : (cutSlot f s n).unfinished f m = s.unfinished f m :=
      cutSlot_unfinished f fun same => new (same ▸ mem)
    have notes : rest.filter ((cutSlot f s n).unfinished f) = rest.filter (s.unfinished f) :=
      List.filter_congr later
    have counted : rest.countP ((cutSlot f s n).unfinished f) = rest.countP (s.unfinished f) :=
      List.countP_congr fun m mem => by rw [later m mem]
    rw [List.foldl_cons, ih nodup, notes, counted]
    cases cut : s.unfinished f n with
    | true =>
      have port : (cutSlot f s n).port = s.cutPort [.cut n f] 1 := by rw [cutSlot_port, cut, if_pos rfl]
      rw [State.cutPort_cutPort port, List.filter_cons_of_pos cut, List.countP_cons_of_pos cut, Nat.add_comm]
      rfl
    | false =>
      have port : (cutSlot f s n).port = s.cutPort [] 0 := by
        rw [cutSlot_port, cut, if_neg (by decide), State.cutPort, satAdd_zero]
        rfl
      rw [State.cutPort_cutPort port, List.filter_cons_of_neg (by simp [cut]), List.countP_cons_of_neg (by simp [cut]),
        Nat.zero_add, List.nil_append]

/-- R43, R146: the port behind a close's cuts. -/
theorem State.cutFrame_port (cause : CloseCause) :
    (s.cutFrame f cause).port = if cause = .close then
      s.cutPort ((slotOrder.filter (s.unfinished f)).map fun n => .cut n f) (slotOrder.countP (s.unfinished f))
      else s.port := by
  cases cause with
  | close =>
    rw [if_pos rfl, ← foldl_cutSlot_port f slotOrder (by decide)]
    rfl
  | last =>
    rw [if_neg (by decide)]
    rfl
  | bye =>
    rw [if_neg (by decide)]
    rfl

/-- R146, R147: a close by CLOSE leaves no row of the closed frame. -/
theorem State.cutFrame_store (cause : CloseCause) :
    (s.cutFrame f cause).store = s.store.filter fun e => !(cause = .close && e.frame == f) := by
  cases cause with
  | close =>
    have slots : ∀ n : SlotNo, n = 0 ∨ n = 1 ∨ n = 2 ∨ n = 3 := by decide
    simp only [State.cutFrame, State.forSlots_eq, cutSlot_store_eq, List.filter_filter]
    refine List.filter_congr fun e _ => ?_
    cases e.frame == f <;> rcases slots e.slot with is | is | is | is <;> simp [is]
  | _ => exact (List.filter_eq_self.2 fun e _ => by simp).symm

end Cuts

section Closed

variable (s : State) (cause : CloseCause)

theorem State.leavesAtOpen_eq (e : Entry) :
    s.leavesAtOpen e = (e.state == .releasing || (s.present e.owner && !(s.closeFrame cause).present e.owner)) := by
  rw [State.leavesAtOpen, s.closeFrame_present, Bool.or_comm]

theorem State.openPlan_mark : s.openPlan.claims.removalMark = false := by
  have served (t : State) : t.serveClaims.claims.removalMark = t.claims.removalMark := by
    rw [State.serveClaims_eq]
    rfl
  have released (t : State) : t.serveReleases.claims.removalMark = t.claims.removalMark := by
    rw [State.serveReleases_eq]
    rfl
  have schedule (t : State) : t.scheduleHello.claims.removalMark = t.claims.removalMark := by
    unfold State.scheduleHello
    split
    · rw [served, State.enqueue_claims]
    · rfl
  have frame (t : State) : t.openFrame.claims = t.claims := rfl
  rw [State.openPlan, schedule, frame, State.openTable_eq, served, released]
  rfl

theorem State.closeFrame_mark : (s.closeFrame cause).claims.removalMark = false := by
  rw [s.closeFrame_eq]
  show (s.openPlan.cutFrame s.frame.number cause).claims.removalMark = false
  simp only [State.cutFrame_frames, State.openPlan_mark]

theorem State.closeFrame_port :
    (s.closeFrame cause).port =
      s.cutPort (s.wakeNotes ++ if cause = .close then
        (slotOrder.filter (s.unfinished s.frame.number)).map fun n => .cut n s.frame.number else [])
        (if cause = .close then slotOrder.countP (s.unfinished s.frame.number) else 0) := by
  have unfinished : s.openPlan.unfinished s.frame.number = s.unfinished s.frame.number := by
    funext n
    simp only [State.unfinished, State.contextAt, State.openPlan_frames]
  have woken : s.openPlan.port = s.cutPort s.wakeNotes 0 := by
    rw [s.openPlan_port, State.cutPort, satAdd_zero, ← State.depositAll_counters s.wakeNotes]
  rw [s.closeFrame_eq]
  show (s.openPlan.cutFrame s.frame.number cause).port = _
  rw [State.cutFrame_port, unfinished]
  split
  · rw [State.cutPort_cutPort woken, Nat.zero_add]
  · rw [woken, List.append_nil]

/-- R160, R147: the rows that a close leaves. -/
theorem State.closeFrame_store :
    (s.closeFrame cause).store = s.store.filter fun e =>
      !((s.claims.table.filter s.leavesAtOpen).any fun r => r.key == s.ownKey e.slot) &&
        !(cause = .close && e.frame == s.frame.number) := by
  rw [s.closeFrame_eq]
  show (s.openPlan.cutFrame s.frame.number cause).store.filter _ = _
  rw [State.cutFrame_store, List.filter_filter]
  simp only [State.openPlan_frames]

theorem State.closeFrame_capture :
    (s.closeFrame cause).capture.inFrame = s.capture.inFrame ∧
      (s.closeFrame cause).capture.rowCounter = s.capture.rowCounter := by
  have frame : (s.openPlan.cutFrame s.frame.number cause).capture.inFrame = s.capture.inFrame ∧
      (s.openPlan.cutFrame s.frame.number cause).capture.rowCounter = s.capture.rowCounter := by
    cases cause <;> simp [State.cutFrame, State.forSlots_eq]
  rw [s.closeFrame_eq]
  exact frame

theorem Context.unfinishedFor_eq (f : Word) (c : Context) :
    c.unfinishedFor f = (c == .armed f || (match c with
      | .capturing g _ _ => g == f
      | _ => false)) := by
  cases c <;> simp [Context.unfinishedFor]

theorem State.heldKeys_contains (k : TileKey) (table : List Entry) :
    (heldKeys table).contains k = table.any fun e => e.key == k && e.state == .held := by
  rw [Bool.eq_iff_iff, List.contains_iff_mem, heldKeys, mem_keySet]

end Closed

/-- Settles O34: the parts of a close, each by its own equation. -/
theorem closeOpensTheNextFrame : Obligations.CloseOpensTheNextFrame := by
  intro s cause t leaves unfinished removed passed cuts u
  have leaves_eq : leaves = s.leavesAtOpen := funext fun e => (s.leavesAtOpen_eq cause e).symm
  have unfinished_eq : unfinished = s.unfinished s.frame.number := funext fun n =>
    congrArg (· || s.store.any fun e => e.slot == n && e.frame == s.frame.number)
      (Context.unfinishedFor_eq s.frame.number (s.contextAt n)).symm
  have removed_eq : removed = s.markAtOpen := by rw [s.markAtOpen_eq, ← leaves_eq]
  have notes : slotOrder.filterMap passed = s.wakeNotes := by
    rw [List.filterMap_eq_flatMap_toList]
    refine congrArg (slotOrder.flatMap ·) (funext fun n => ?_)
    have gone : s.goneAtOpen n = s.claims.table.any fun e => leaves e && e.key == s.ownKey n := by
      rw [leaves_eq, s.goneAtOpen_eq]
    simp only [passed, ← gone, removed_eq]
    cases (s.slotAt n).state with
    | dropping => cases s.goneAtOpen n <;> rfl
    | waiting why => cases s.markAtOpen <;> rfl
    | _ => rfl
  have port : t.port = s.cutPort (slotOrder.filterMap passed ++ cuts)
      (if cause = .close then slotOrder.countP unfinished else 0) := by
    rw [notes, unfinished_eq, s.closeFrame_port, ← unfinished_eq]
  have frame : t.frame = _ := s.closeFrame_frameUnit cause
  refine ⟨?_, s.closeFrame_mark cause, ?_, ?_, ?_, ?_, ?_, ?_, ?_, ?_, ?_, ?_, ?_, ?_, ?_, ?_, ?_, ?_, ?_, ?_⟩
  · rw [leaves_eq, s.closeFrame_table, State.openedTable]
    simp only [beq_iff_eq]
  · rw [port]; rfl
  · rw [port]; rfl
  · rw [frame]
    simp [BitVec.toNat_add]
  · rw [frame]
  · rw [frame]
    exact Bool.eq_iff_iff.2 (isMember_iff.trans decide_eq_true_iff.symm)
  · intro key _
    rw [frame, s.closeFrame_table]
    exact State.heldKeys_contains key _
  · intro n
    have number : t.frame.number = s.frame.number + 1 := by rw [frame]
    rw [State.closeFrame_contextAt, number]
    rfl
  · rw [leaves_eq, s.closeFrame_store]
    refine List.filter_congr fun e _ => ?_
    rw [List.any_filter]
    simp only [entry_key_beq, State.ownKey, Bool.and_assoc]
  · rw [port, State.cutPort]
    split
    · rfl
    · rw [satAdd_zero]
  · simp [t]
  · simp [t]
  · simp [t]
  · simp [t]
  · simp [t]
  · simp [t]
  · exact (s.closeFrame_capture cause).1
  · exact (s.closeFrame_capture cause).2
  · rw [port]
    exact State.depositAll_reply _

end Sys2Proof.Machine
end

section
set_option Elab.async false
/-! O35: what a close makes of the slots, the queue and the own sequence counter (R15, R20, R24, R25, R48, R66, R70). -/

namespace Sys2Proof.Machine

section Open

variable (s : State)

/-- R20: the CLAIMs of WANTED slots wait for nothing. -/
def State.readyAtOpen : Bool := s.present s.own || s.queue.any fun c => c.kind == .hello

def State.wantsAtOpen (n : SlotNo) : Bool := (s.wakedSlot n).state == .wanted && s.isMember

def State.givesAtOpen (n : SlotNo) : Bool :=
  (s.wakedSlot n).state == .dropping && s.isMember && s.openedTable.any fun e => e.key == s.ownKey n

def State.releasesAtOpen : List QueueKind :=
  (slotOrder.filter fun n => s.givesAtOpen n && !s.queues (.claim n)).map .release

/-- The CLAIMs of WANTED slots, where they are queued at all. -/
def State.claimsAtOpen (queued : Bool) : List QueueKind :=
  (slotOrder.filter fun n => s.wantsAtOpen n && queued && !s.queues (.claim n)).map .claim

def State.slotAtOpen (proposed : Bool) (n : SlotNo) : Slot :=
  if s.wantsAtOpen n && proposed then { s.wakedSlot n with state := .proposed } else s.wakedSlot n

/-- R15: what is left in the opened table is HELD. -/
theorem State.openedTable_held {e : Entry} (mem : e ∈ s.openedTable) : e.state = .held := by
  obtain ⟨x, kept, rfl⟩ := List.mem_map.1 mem
  obtain ⟨-, stays⟩ := List.mem_filter.1 kept
  simp only [State.leavesAtOpen, Bool.not_eq_true', Bool.or_eq_false_iff, beq_eq_false_iff_ne] at stays
  cases state : x.state with
  | pending => simp
  | held => simp [state]
  | releasing => exact absurd state stays.2

theorem State.opened_present : s.opened.present s.own = s.present s.own := by
  show (s.agedRoster[s.own]).present = (s.rosterAt s.own).present
  rw [s.agedRoster_get, agedEntry_unaged (by simp)]

theorem State.opened_releaseDue (n : SlotNo) :
    (s.opened.planEdit s.wakedSlot [] s.wakeNotes).releaseDue n = s.givesAtOpen n := by
  have entry : ((s.opened.ownEntry n).any fun e => e.state == .pending || e.state == .held) =
      s.openedTable.any fun e => e.key == s.ownKey n := by
    show ((s.openedTable.find? fun e => e.key == s.ownKey n).any _) = _
    rw [Bool.eq_iff_iff, Option.any_eq_true, List.any_eq_true]
    constructor
    · rintro ⟨e, found, -⟩
      exact ⟨e, List.mem_of_find?_eq_some found, List.find?_some (p := fun e : Entry => e.key == s.ownKey n) found⟩
    · rintro ⟨e, mem, key⟩
      obtain ⟨x, found⟩ := Option.isSome_iff_exists.1
        (List.find?_isSome.2 ⟨e, mem, key⟩ : (s.openedTable.find? fun e => e.key == s.ownKey n).isSome)
      exact ⟨x, found, by simp [s.openedTable_held (List.mem_of_find?_eq_some found)]⟩
  have member : s.opened.isMember = s.isMember := rfl
  rw [State.releaseDue, State.planEdit_slotAt, State.planEdit_isMember, State.planEdit_ownEntry, entry, member,
    State.givesAtOpen]

/-- A slot's RELEASE has another slot's place. -/
theorem State.releasesAtOpen_free {n : SlotNo} (wants : s.wantsAtOpen n = true) :
    (s.releasesAtOpen.any fun c => c.place == (QueueKind.claim n).place) = false := by
  rw [List.any_eq_false]
  intro k mem
  obtain ⟨m, gives, rfl⟩ := List.mem_map.1 mem
  have gives := (List.mem_filter.1 gives).2
  intro place
  have same : m = n := by simpa [QueueKind.place, Fin.ext_iff] using place
  subst same
  simp only [State.wantsAtOpen, State.givesAtOpen, Bool.and_eq_true, beq_iff_eq] at wants gives
  rw [wants.1] at gives
  exact absurd gives.1.1.1 (by decide)

theorem State.openTable_planEdit (landed : ∀ c ∈ s.queue, c.inFlight = false) :
    s.openTable = s.opened.planEdit (s.slotAtOpen s.readyAtOpen) (s.releasesAtOpen ++ s.claimsAtOpen s.readyAtOpen)
      s.wakeNotes := by
  have hello : s.opened.helloWaits = s.queue.any fun c => c.kind == .hello := by
    show (s.queue.any fun c => c.kind == .hello && !c.inFlight) = _
    rw [Bool.eq_iff_iff, List.any_eq_true, List.any_eq_true]
    exact exists_congr fun c => and_congr_right fun mem => by simp [landed c mem]
  have released : (s.opened.planEdit s.wakedSlot [] s.wakeNotes).serveReleases =
      s.opened.planEdit s.wakedSlot s.releasesAtOpen s.wakeNotes := by
    have queues (n : SlotNo) : (s.opened.planEdit s.wakedSlot [] s.wakeNotes).queues (.claim n) = s.queues (.claim n) := by
      rw [State.planEdit_queues]
      simp [State.queues, State.opened]
    rw [State.serveReleases_eq]
    simp only [State.opened_releaseDue, queues]
    rw [State.planEdit_planEdit, List.nil_append, List.append_nil]
    rfl
  have serves (n : SlotNo) : (s.opened.planEdit s.wakedSlot s.releasesAtOpen s.wakeNotes).serves n =
      (s.wantsAtOpen n && s.readyAtOpen) := by
    have waits : (s.opened.planEdit s.wakedSlot s.releasesAtOpen s.wakeNotes).helloWaits = s.opened.helloWaits :=
      State.planEdit_helloWaits _ _ _ _ fun k mem => by
        obtain ⟨m, -, rfl⟩ := List.mem_map.1 mem
        simp
    have own : s.opened.own = s.own := rfl
    have member : s.opened.isMember = s.isMember := rfl
    rw [State.serves, State.planEdit_slotAt, State.planEdit_isMember, State.planEdit_present,
      State.planEdit_own, waits, hello,
      own, member, s.opened_present, State.wantsAtOpen, State.readyAtOpen]
  have free (n : SlotNo) : (s.wantsAtOpen n && s.readyAtOpen &&
      !(s.opened.planEdit s.wakedSlot s.releasesAtOpen s.wakeNotes).queues (.claim n)) =
      (s.wantsAtOpen n && s.readyAtOpen && !s.queues (.claim n)) := by
    cases wants : s.wantsAtOpen n with
    | false => rfl
    | true =>
      rw [State.planEdit_queues, s.releasesAtOpen_free wants, Bool.or_false]
      rfl
  rw [s.openTable_eq, released, State.serveClaims_eq]
  simp only [serves, free, State.planEdit_slotAt]
  rw [State.planEdit_planEdit, List.append_nil]
  rfl

/-! ### The frame unit and the HELLO schedule behind it -/

/-- R48: the CLOSE for the closed frame leaves. -/
def State.closeLeaves (c : QueuedCell) : Bool := c.kind == .close s.frame.number

/-- R66: the HELLO schedule at the frame that opens. -/
def State.scheduledAtOpen : Bool :=
  s.isMember && (s.frame.number + 1).toNat % strapHelloInterval s.strap.words == s.own.val % strapHelloInterval s.strap.words

/-- `f` is the station at the HELLO schedule of a close at `s`, as to the slots and the queue. -/
structure State.Framed (s f : State) : Prop where
  slots : ∀ n, f.slotAt n = s.slotAtOpen s.readyAtOpen n
  queue : f.queue = (s.queue.filter fun c => !s.closeLeaves c) ++
    (s.releasesAtOpen ++ s.claimsAtOpen s.readyAtOpen).map waiting
  sequence : f.membership.sequence =
    s.membership.sequence - BitVec.ofNat 8 (s.queue.countP fun c => s.closeLeaves c && c.given.isSome)
  member : f.isMember = s.isMember
  scheduled : f.helloScheduled = s.scheduledAtOpen

/-- A cell that the open step queues is a slot's. -/
theorem State.slotCell {c : QueuedCell} {queued : Bool}
    (mem : c ∈ (s.releasesAtOpen ++ s.claimsAtOpen queued).map waiting) :
    ∃ n, c = waiting (.claim n) ∨ c = waiting (.release n) := by
  obtain ⟨k, cells, rfl⟩ := List.mem_map.1 mem
  rcases List.mem_append.1 cells with slot | slot <;> obtain ⟨n, -, rfl⟩ := List.mem_map.1 slot
  · exact ⟨n, .inr rfl⟩
  · exact ⟨n, .inl rfl⟩

theorem State.framed (landed : ∀ c ∈ s.queue, c.inFlight = false) : s.Framed s.openTable.openFrame := by
  have gone (c : QueuedCell) (mem : c ∈ s.queue) : (c.kind == .close s.frame.number && !c.inFlight) = s.closeLeaves c := by
    rw [landed c mem, State.closeLeaves, Bool.not_false, Bool.and_true]
  have added (c : QueuedCell) (mem : c ∈ (s.releasesAtOpen ++ s.claimsAtOpen s.readyAtOpen).map waiting) :
      (c.kind == .close s.frame.number && !c.inFlight) = false ∧ c.given = none := by
    obtain ⟨n, rfl | rfl⟩ := s.slotCell mem <;> exact ⟨rfl, rfl⟩
  rw [s.openTable_planEdit landed]
  refine ⟨fun n => s.opened.planEdit_slotAt (s.slotAtOpen s.readyAtOpen) (s.releasesAtOpen ++ s.claimsAtOpen s.readyAtOpen)
    s.wakeNotes n, ?_, ?_, rfl, rfl⟩
  · show ((s.queue ++ _).filter fun c => !(c.kind == .close s.frame.number && !c.inFlight)) = _
    rw [List.filter_append]
    congr 1
    · exact List.filter_congr fun c mem => by rw [gone c mem]
    · exact List.filter_eq_self.2 fun c mem => by rw [(added c mem).1]; rfl
  · show s.membership.sequence - BitVec.ofNat 8 ((s.queue ++ _).countP fun c =>
      (c.kind == .close s.frame.number && !c.inFlight) && c.given.isSome) = _
    have none_given : (((s.releasesAtOpen ++ s.claimsAtOpen s.readyAtOpen).map waiting).countP fun c =>
        (c.kind == .close s.frame.number && !c.inFlight) && c.given.isSome) = 0 := by
      rw [List.countP_eq_zero]
      intro c mem
      simp [(added c mem).2]
    rw [List.countP_append, none_given, Nat.add_zero, List.countP_congr fun c mem => by rw [gone c mem]]

/-- What no CLOSE satisfies is met by as many queued cells once the CLOSE has left. -/
theorem State.kept_any {p : QueueKind → Bool} (notClose : p (.close s.frame.number) = false) :
    ((s.queue.filter fun c => !s.closeLeaves c).any fun c => p c.kind) = s.queue.any fun c => p c.kind := by
  rw [List.any_filter]
  refine congrArg s.queue.any (funext fun c => ?_)
  cases leaves : s.closeLeaves c with
  | false => rfl
  | true => rw [show c.kind = .close s.frame.number from eq_of_beq leaves, notClose]; rfl

theorem QueueKind.place_hello (k : QueueKind) : (k.place == QueueKind.hello.place) = (k == .hello) := by
  rw [Bool.eq_iff_iff]
  cases k <;> simp [QueueKind.place, Fin.ext_iff] <;> omega

theorem QueueKind.place_claim_close (n : SlotNo) (f : Word) :
    ((QueueKind.close f).place == (QueueKind.claim n).place) = false := by
  have := n.isLt
  simp [QueueKind.place, Fin.ext_iff]
  omega

section Schedule

variable {s} {f : State} (framed : s.Framed f) (landed : ∀ c ∈ s.queue, c.inFlight = false)
include framed

theorem State.Framed.any_hello : (f.queue.any fun c => c.kind == .hello) = s.queue.any fun c => c.kind == .hello := by
  have slots : (((s.releasesAtOpen ++ s.claimsAtOpen s.readyAtOpen).map waiting).any fun c => c.kind == .hello) = false := by
    rw [List.any_eq_false]
    intro c mem
    obtain ⟨n, rfl | rfl⟩ := s.slotCell mem <;> simp [waiting]
  rw [framed.queue, List.any_append, slots, Bool.or_false]
  exact s.kept_any (p := (· == .hello)) rfl

theorem State.Framed.queues_hello : f.queues .hello = s.queue.any fun c => c.kind == .hello := by
  rw [← framed.any_hello, State.queues]
  simp only [QueueKind.place_hello]

/-- R20, R66: behind the HELLO of the schedule the CLAIMs that waited for it are served. -/
theorem State.Framed.serves (landed : ∀ c ∈ s.queue, c.inFlight = false) (n : SlotNo) :
    (f.enqueue .hello).serves n = (s.wantsAtOpen n && !s.readyAtOpen) := by
  have waits : f.helloWaits = s.queue.any fun c => c.kind == .hello := by
    rw [← framed.any_hello, State.helloWaits, Bool.eq_iff_iff, List.any_eq_true, List.any_eq_true]
    refine exists_congr fun c => and_congr_right fun mem => ?_
    have landed : c.inFlight = false := by
      rw [framed.queue, List.mem_append] at mem
      rcases mem with old | new
      · exact landed c (List.mem_filter.1 old).1
      · obtain ⟨n, rfl | rfl⟩ := s.slotCell new <;> rfl
    simp [landed]
  have hello : (f.enqueue .hello).helloWaits = true := by
    rw [State.enqueue_eq, framed.queues_hello]
    cases old : s.queue.any fun c => c.kind == .hello with
    | true => exact waits.trans old
    | false => simp [State.helloWaits]
  have slot : (f.enqueue .hello).slotAt n = f.slotAt n := by
    rw [State.slotAt, State.enqueue_claims, State.slotAt]
  have member : (f.enqueue .hello).isMember = s.isMember := by
    rw [State.isMember, State.enqueue_membership, ← framed.member, State.isMember]
  rw [State.serves, hello, slot, member, framed.slots, Bool.or_true, Bool.and_true, State.slotAtOpen]
  cases ready : s.readyAtOpen with
  | false => simp [State.wantsAtOpen]
  | true =>
    cases wants : s.wantsAtOpen n with
    | true => simp
    | false => simpa [State.wantsAtOpen] using wants

theorem State.Framed.free (n : SlotNo) (waits : (s.wantsAtOpen n && !s.readyAtOpen) = true) :
    (f.enqueue .hello).queues (.claim n) = s.queues (.claim n) := by
  obtain ⟨wants, ready⟩ := Bool.and_eq_true_iff.1 waits
  have none_waits : s.claimsAtOpen s.readyAtOpen = [] := by
    rw [(Bool.not_eq_true' _).mp ready]
    simp [State.claimsAtOpen]
  have other : (QueueKind.hello.place == (QueueKind.claim n).place) = false := by
    have := n.isLt
    simp [QueueKind.place, Fin.ext_iff]
    omega
  have old : f.queues (.claim n) = s.queues (.claim n) := by
    rw [State.queues, framed.queue, none_waits, List.append_nil, List.any_append, List.any_map]
    have releases : (s.releasesAtOpen.any ((fun c : QueuedCell => c.kind.place == (QueueKind.claim n).place) ∘ waiting)) =
        false := s.releasesAtOpen_free wants
    rw [releases, Bool.or_false]
    exact s.kept_any (p := fun k => k.place == (QueueKind.claim n).place) (QueueKind.place_claim_close n _)
  rw [← old, State.enqueue_eq]
  split
  · rfl
  · simp [State.queues, other]

end Schedule

theorem State.openPlan_parts (landed : ∀ c ∈ s.queue, c.inFlight = false) :
    (∀ n, s.openPlan.slotAt n = s.slotAtOpen (s.readyAtOpen || s.scheduledAtOpen) n) ∧
    s.openPlan.queue = (s.queue.filter fun c => !s.closeLeaves c) ++
      (s.releasesAtOpen ++ s.claimsAtOpen s.readyAtOpen).map waiting ++
      (if s.scheduledAtOpen && !s.queue.any fun c => c.kind == .hello then [⟨.hello, none, false⟩] else []) ++
      (s.claimsAtOpen (!s.readyAtOpen && s.scheduledAtOpen)).map waiting ∧
    s.openPlan.membership.sequence =
      s.membership.sequence - BitVec.ofNat 8 (s.queue.countP fun c => s.closeLeaves c && c.given.isSome) := by
  obtain ⟨f, framed, shape⟩ : ∃ f, s.Framed f ∧
    s.openPlan = if f.helloScheduled then (f.enqueue .hello).serveClaims else f :=
    ⟨_, s.framed landed, rfl⟩
  have nothing : s.claimsAtOpen false = [] := by simp [State.claimsAtOpen]
  rw [shape, framed.scheduled]
  cases s.scheduledAtOpen with
  | false =>
    simp only [Bool.or_false, Bool.and_false, Bool.false_and, nothing]
    exact ⟨framed.slots, by rw [if_neg (by decide), if_neg (by decide), framed.queue]; simp, framed.sequence⟩
  | true =>
    have hello : (f.enqueue .hello).queue = f.queue ++
        if !s.queue.any fun c => c.kind == .hello then [⟨.hello, none, false⟩] else [] := by
      rw [State.enqueue_eq, framed.queues_hello]
      cases s.queue.any fun c => c.kind == .hello <;> simp
    have cells : (slotOrder.filter fun n => (f.enqueue .hello).serves n &&
        !(f.enqueue .hello).queues (.claim n)).map QueueKind.claim = s.claimsAtOpen (!s.readyAtOpen && true) := by
      rw [Bool.and_true, State.claimsAtOpen]
      refine congrArg _ (List.filter_congr fun n _ => ?_)
      rw [framed.serves landed]
      cases waits : s.wantsAtOpen n && !s.readyAtOpen with
      | false => rfl
      | true => rw [framed.free n waits]
    rw [if_pos rfl, State.serveClaims_eq, cells]
    refine ⟨fun n => ?_, ?_, ?_⟩
    · have slot : (f.enqueue .hello).slotAt n = s.slotAtOpen s.readyAtOpen n := by
        rw [State.slotAt, State.enqueue_claims, ← framed.slots, State.slotAt]
      rw [State.planEdit_slotAt, framed.serves landed, slot, State.slotAtOpen, State.slotAtOpen]
      cases s.wantsAtOpen n <;> cases s.readyAtOpen <;> simp
    · show (f.enqueue .hello).queue ++ (s.claimsAtOpen (!s.readyAtOpen && true)).map waiting = _
      rw [hello, framed.queue, Bool.true_and]
    · show (f.enqueue .hello).membership.sequence = _
      rw [State.enqueue_membership, framed.sequence]

theorem State.closeFrame_plan (cause : CloseCause) :
    (s.closeFrame cause).claims = s.openPlan.claims ∧ (s.closeFrame cause).queue = s.openPlan.queue ∧
      (s.closeFrame cause).membership = s.openPlan.membership := by
  obtain ⟨claims, -, membership, -, -, -, queue, -⟩ := s.openPlan.cutFrame_frames s.frame.number cause
  rw [s.closeFrame_eq]
  exact ⟨claims, queue, membership⟩

end Open

/-- Settles O35: the slots, the queue and the counter at the open, read off the close. -/
theorem closeServesTheSlots : Obligations.CloseServesTheSlots := by
  intro s cause landed t leaves removed interval member scheduled hello ready waked proposes gives free claims releases closed
  have landed : ∀ c ∈ s.queue, c.inFlight = false := by
    simpa [List.all_eq_true] using landed
  obtain ⟨slots, queue, sequence⟩ := s.openPlan_parts landed
  obtain ⟨claims_is, queue_is, membership_is⟩ := s.closeFrame_plan cause
  have leaves_eq : leaves = s.leavesAtOpen := funext fun e => (s.leavesAtOpen_eq cause e).symm
  have removed_eq : s.markAtOpen = removed := by rw [s.markAtOpen_eq, ← leaves_eq]
  have waked_eq (n : SlotNo) : (s.wakedSlot n).state = waked n := by
    have gone : s.goneAtOpen n = s.claims.table.any fun e => e.key == s.ownKey n && leaves e := by
      rw [s.goneAtOpen_eq, leaves_eq]
      simp only [Bool.and_comm]
    simp only [State.wakedSlot, waked, gone, removed_eq]
    cases (s.slotAt n).state <;> rfl
  have free_eq (n : SlotNo) : free n = !s.queues (.claim n) := by rw [s.queues_claim]
  have gives_eq (n : SlotNo) : s.givesAtOpen n = gives n := by
    simp only [gives, t, s.closeFrame_table, State.givesAtOpen, waked_eq]
    rfl
  have wants_eq (n : SlotNo) : s.wantsAtOpen n = (waked n == .wanted && member) := by
    rw [State.wantsAtOpen, waked_eq]
    rfl
  have scheduled_eq : scheduled = s.scheduledAtOpen := by
    simp only [scheduled, t, s.closeFrame_frameUnit]
    rfl
  have proposes_eq (n : SlotNo) : proposes n = (s.wantsAtOpen n && (s.readyAtOpen || s.scheduledAtOpen)) := by
    rw [wants_eq, ← scheduled_eq]
    rfl
  have releases_eq : s.releasesAtOpen.map waiting = releases := by
    rw [State.releasesAtOpen, List.map_map]
    simp only [gives_eq, ← free_eq]
    rfl
  have claims_eq : (s.claimsAtOpen (s.readyAtOpen || s.scheduledAtOpen)).map waiting = claims := by
    rw [State.claimsAtOpen, List.map_map]
    simp only [← proposes_eq, ← free_eq]
    rfl
  have queue_eq : t.queue = (s.queue.filter fun c => !closed c) ++ releases ++ (if ready then claims else []) ++
      (if scheduled && !hello then [⟨.hello, none, false⟩] else []) ++ (if ready then [] else claims) := by
    have none_queued : s.claimsAtOpen false = [] := by simp [State.claimsAtOpen]
    have ready_eq : s.readyAtOpen = ready := rfl
    show (s.closeFrame cause).queue = _
    rw [queue_is, queue, scheduled_eq, List.map_append, releases_eq, ← claims_eq, ready_eq]
    cases ready with
    | true => simp [none_queued, hello, closed, State.closeLeaves]
    | false => simp [none_queued, hello, closed, State.closeLeaves]
  refine ⟨fun n => ?_, queue_eq, ?_, fun n isFree => ⟨fun proposed => ?_, fun given => ?_⟩⟩
  · show (s.closeFrame cause).slotAt n = _
    rw [State.slotAt, claims_is, ← State.slotAt, slots, State.slotAtOpen, ← proposes_eq]
    split <;> simp only [State.wakedSlot, ← waked_eq]
  · show (s.closeFrame cause).membership.sequence = _
    rw [membership_is, sequence]
    rfl
  · have mem : (⟨.claim n, none, false⟩ : QueuedCell) ∈ claims :=
      List.mem_map.2 ⟨n, List.mem_filter.2 ⟨mem_slotOrder n, by rw [proposed, isFree]; rfl⟩, rfl⟩
    rw [queue_eq]
    cases ready <;> simp [mem]
  · have mem : (⟨.release n, none, false⟩ : QueuedCell) ∈ releases :=
      List.mem_map.2 ⟨n, List.mem_filter.2 ⟨mem_slotOrder n, by rw [given, isFree]; rfl⟩, rfl⟩
    rw [queue_eq]
    simp [mem]

end Sys2Proof.Machine
end

section
set_option Elab.async false
/-! O23: a DUMP that names the station, and what its install makes of the plan and the capture side (R91 to R96, R207). -/

namespace Sys2Proof.Machine

section Named

variable {s : State} {c : Cell} {d : DumpBody} {h : Header}

/-! ### The cell -/

theorem State.syncingCell_dump {bytes : List Byte} (dump : Kind.ofCode h.kind = some .dump) (read : dumpOf bytes = some d)
    (named : d.names s.own = true) : s.syncingCell h (some bytes) false = (s.recordFrame h.frame).install h d := by
  have agrees : s.helloDisagrees h (some bytes) = false := by rw [State.helloDisagrees, dump]
  simp [State.syncingCell, agrees, dump, read, named]

/-- R91: a DUMP that names the station is no GAP. -/
theorem State.planCell_named (dump : Kind.ofCode c.header.kind = some .dump) (other : c.header.sender ≠ s.own)
    (read : dumpOf c.payload = some d) (named : d.names s.own = true) :
    s.planCell c.header (some c.payload) none = (s.recorded c.header).dumpCell c.header c.payload false := by
  have isNamed : s.named .dump (some c.payload) = true := by simp [State.named, read, named]
  have signs : s.cellSigns .dump c.header (some c.payload) none = Signs.none := by
    unfold State.cellSigns
    split
    · rw [State.signs_of_inert _ (by simp), State.headerSigns, isNamed, Bool.not_true, Bool.and_false]
      rfl
    · rfl
  rw [State.planCell_of_no_signs dump (fun _ => other) (by simp) signs, State.kindRules_dump]
  rfl

theorem State.dumpCell_suspect {bytes : List Byte} (suspect : s.membership.state = .suspect) (read : dumpOf bytes = some d)
    (named : d.names s.own = true) : s.dumpCell h bytes false = s.install h d := by
  simp [State.dumpCell, read, State.isMember, suspect, named]

end Named

/-! ### The plan -/

section Install

variable (s : State) (h : Header) (d : DumpBody)

/-- R95: slot n's own entry in the DUMP. -/
def dumpEntry (own : Station) (d : DumpBody) (n : SlotNo) : Option Entry :=
  d.entries.find? fun e => e.owner == own && e.slot == n

theorem State.dumpTable_find (n : SlotNo) :
    ((s.dumpTable d).find? fun e => e.key == s.ownKey n).map Entry.state = (dumpEntry s.own d n).map Entry.state := by
  have key : ((fun e : Entry => e.key == s.ownKey n) ∘ fun e : Entry =>
      if e.owner == s.own then { e with localPart := some ⟨(s.slotAt e.slot).crop, e.slot⟩ } else e) =
      fun e => e.owner == s.own && e.slot == n := by
    funext e
    rw [Function.comp, ← entry_key_beq, State.ownKey]
    split <;> rfl
  rw [State.dumpTable, List.find?_map, key, Option.map_map, dumpEntry]
  refine congrArg (Option.map · _) (funext fun e => ?_)
  rw [Function.comp]
  split <;> rfl

/-- R94: the installed frame waits for slot n's tile. -/
theorem State.installPlan_awaited (n : SlotNo) :
    (s.installPlan h d).awaited n =
      (((dumpEntry s.own d n).any fun e => e.state != .pending) && d.outstandingKeys.contains ⟨s.own, n⟩) := by
  have states : ((s.installPlan h d).ownEntry n).map Entry.state = (dumpEntry s.own d n).map Entry.state :=
    s.dumpTable_find d n
  have entry : ((s.installPlan h d).ownEntry n).any (fun e => e.state == .held || e.state == .releasing) =
      (dumpEntry s.own d n).any fun e => e.state != .pending := by
    cases found : (s.installPlan h d).ownEntry n <;> cases mine : dumpEntry s.own d n <;>
      simp only [found, mine, Option.map_some, Option.map_none, reduceCtorEq, Option.some.injEq] at states
    · rfl
    · simp only [Option.any_some, states]
      cases (Entry.state _) <;> rfl
  rw [State.awaited, entry]
  rfl

/-! ### The install in its parts -/

theorem State.install_frames :
    (s.install h d).claims.table = s.dumpTable d ∧ (s.install h d).claims.removalMark = true ∧
    (s.install h d).membership.roster = s.dumpRoster h d ∧
    (s.install h d).membership.silence = s.membership.silence ∧
    (s.install h d).link = s.link ∧ (s.install h d).ladder = s.ladder ∧ (s.install h d).strap = s.strap := by
  unfold State.install
  cases s.isMember <;> simp [State.forSlots_eq, State.installPlan]

theorem State.memberCells_port :
    s.memberCells.port = (s.depositAll ((slotOrder.filter s.starts).map fun n => .slot n .wanted .start)).port := by
  have starts : (s.enqueue .hello).starts = s.starts := by
    funext n
    rw [State.starts, State.slotAt, State.enqueue_claims]
    rfl
  rw [State.memberCells, State.serveReleases_port, State.serveClaims_port, State.startOnSlots_eq, starts]
  exact State.depositAll_port (s := s) (State.enqueue_port _ _) _

/-- R96: the notices, whose port keeps its reply and its counters. -/
theorem State.reinstalled_port :
    ∃ notes, (s.reinstalled h d).port = (s.depositAll notes).port := by
  rw [s.reinstalled_eq h d _ rfl, State.rederiveSlots_eq]
  exact ⟨_, State.depositAll_port (s := s) (t := (s.installPlan h d).installLocal) (by simp [State.installPlan]) _⟩

theorem State.install_port :
    (s.install h d).port.reply = s.port.reply ∧ (s.install h d).port.counters =
      { s.port.counters with dumpsInstalled := satAdd s.port.counters.dumpsInstalled 1 } := by
  obtain ⟨notes, reinstalled⟩ := s.reinstalled_port h d
  have entered : (((s.reinstalled h d).setState .member).memberCells).port.reply = s.port.reply ∧
      (((s.reinstalled h d).setState .member).memberCells).port.counters = s.port.counters := by
    rw [State.memberCells_port, State.depositAll_reply, State.depositAll_counters]
    show (s.reinstalled h d).port.reply = _ ∧ (s.reinstalled h d).port.counters = _
    rw [reinstalled, State.depositAll_reply, State.depositAll_counters]
    exact ⟨rfl, rfl⟩
  rw [State.install_eq]
  cases s.isMember <;> simp [State.count, entered]

/-- R93, R54: the positions that the bitmap marks. -/
theorem DumpBody.outstandingKeys_contains (k : TileKey) :
    d.outstandingKeys.contains k =
      (List.range d.entries.length).any fun i => d.outstanding.getLsbD i && (d.entries[i]?.map Entry.key) == some k := by
  rw [Bool.eq_iff_iff, List.contains_iff_mem, DumpBody.outstandingKeys, mem_keySet, List.any_eq_true, List.any_eq_true]
  constructor
  · rintro ⟨⟨e, i⟩, mem, marked⟩
    obtain ⟨-, lt, is⟩ := List.mem_zipIdx mem
    simp only [Bool.and_eq_true, beq_iff_eq] at marked
    refine ⟨i, List.mem_range.2 (by simpa using lt), ?_⟩
    have at_i : d.entries[i]? = some e := by
      rw [is]
      exact List.getElem?_eq_getElem _
    simp [at_i, marked.1, marked.2]
  · rintro ⟨i, mem, marked⟩
    have lt := List.mem_range.1 mem
    rw [List.getElem?_eq_getElem lt] at marked
    simp only [Bool.and_eq_true, beq_iff_eq, Option.map_some, Option.some.injEq] at marked
    refine ⟨(d.entries[i], i), ?_, by simp [marked.1, marked.2]⟩
    exact List.mem_zipIdx_iff_getElem?.2 (List.getElem?_eq_getElem lt)

theorem State.dumpRoster_at (i : Station) :
    (s.dumpRoster h d)[i] =
      let e := d.roster[i]
      let e := if e.present = true ∧ e.age < s.rosterTimeout then e else ⟨false, 0, false, e.sequence⟩
      if i = h.sender then { e with heard := e.heard || e.present, sequence := h.sequence } else e := by
  rw [State.dumpRoster]
  refine (tab16_get _ i).trans ?_
  simp only [beq_iff_eq, installedRoster, Bool.and_eq_true, decide_eq_true_eq]

end Install

/-- Settles O23: the three states' rules, and the install part by part. -/
theorem namedDumpIsInstalled : Obligations.NamedDumpIsInstalled := by
  refine ⟨?_, ?_⟩
  · intro s levels c d listens heard other dump read named u
    refine ⟨fun syncing => ?_, fun suspect => ?_, fun member => ?_⟩
    · rw [exec_cellEnd_listens listens, State.handOver_of_header (CellClass.heard_header heard).1,
        State.units_syncing (s := u) syncing other, (CellClass.heard_header heard).2]
      exact congrArg (fun t : State => Host.Outcome.next t.settleAttempts) (State.syncingCell_dump (s := u) dump read named)
    · rw [exec_plan_heard listens (.inr suspect) heard other, State.planCell_named
        (s := s.afterLink _) dump other read named,
        State.dumpCell_suspect (s := u.recorded c.header) suspect read named]
    · rw [exec_plan_heard listens (.inl member) heard other, State.planCell_named (s := s.afterLink _) dump other read named,
        State.dumpCell_member (s := u.recorded c.header) member read]
      exact congrArg (fun t : State => Host.Outcome.next t.settleAttempts) (if_pos named)
  · intro s h d t mine due
    obtain ⟨table, mark, roster, silence, link, ladder, strap⟩ := s.install_frames h d
    obtain ⟨reply, counters⟩ := s.install_port h d
    have frame : t.frame = ⟨h.frame, d.outstandingKeys, true, s.frame.lastHeard⟩ := s.install_frameUnit h d
    have mine_eq (n : SlotNo) : mine n = (dumpEntry s.own d n).any fun e => e.state != .pending := by
      rw [Bool.eq_iff_iff, List.any_eq_true, Option.any_eq_true]
      constructor
      · rintro ⟨e, -, is⟩
        simp only [Bool.and_eq_true, beq_iff_eq] at is
        exact ⟨e, is.1.2, is.2⟩
      · rintro ⟨e, found, entered⟩
        have mine := List.find?_some (p := fun e : Entry => e.owner == s.own && e.slot == n) found
        refine ⟨e, List.mem_of_find?_eq_some found, ?_⟩
        have same : (d.entries.find? fun x => x.owner == s.own && x.slot == n) = some e := found
        rw [mine, same, entered]
        simp
    have due_eq (n : SlotNo) : (s.installPlan h d).awaited n = due n := by
      simp only [due, mine_eq, frame, s.installPlan_awaited]
    refine ⟨?_, mark, ?_, ?_, ?_, s.install_state h d, silence, ?_, ?_, ?_, ?_, ?_, link, ladder, strap, reply, counters⟩
    · rw [table, State.dumpTable]
      simp only [beq_iff_eq]
    · rw [frame]
    · intro k _
      rw [frame]
      exact d.outstandingKeys_contains k
    · intro i
      show (s.install h d).membership.roster[i] = _
      rw [roster, State.dumpRoster_at]
    · exact s.install_recovery h d
    · rw [s.install_store]
      show (s.store.filter fun e => !!(e.frame == h.frame && (s.installPlan h d).awaited e.slot)) = _
      simp only [due_eq, Bool.not_not]
    · intro n
      show (s.install h d).contextAt n = _
      rw [State.contextAt_congr (s := (s.installPlan h d).installLocal) (by rw [s.install_capture]),
        State.installLocal_contextAt, due_eq]
      rfl
    · rw [s.install_capture]
      rfl
    · rw [s.install_capture]
      rfl

end Sys2Proof.Machine
end

section
set_option Elab.async false
/-! O24: what an install makes of the slots, the queue, the own sequence counter and the notices (R19, R20, R25, R70,
R95, R96). -/

namespace Sys2Proof.Machine

section Install

variable (s : State) (h : Header) (d : DumpBody)

/-- R95: the state of slot n's own entry in the DUMP. -/
def installedEntry (own : Station) (d : DumpBody) (n : SlotNo) : Option EntryState := (dumpEntry own d n).map Entry.state

/-- R95: slot n as the install rederives it. -/
def State.installSlot (n : SlotNo) : Slot := Machine.rederived (installedEntry s.own d n) (s.slotAt n)

/-- R96: the notices of the slots that change. -/
def State.installNotes : List Notice :=
  (slotOrder.filter fun n => (s.installSlot d n).state != (s.slotAt n).state).map fun n =>
    .slot n (s.installSlot d n).state .install

/-- R70, R95, R96: what leaves the queue at an install. -/
def State.installLeaves (k : QueueKind) : Bool := k == .query || (s.isMember && k.isPlan)

theorem State.reinstalled_parts (landed : ∀ c ∈ s.queue, c.inFlight = false) :
    (∀ n, (s.reinstalled h d).slotAt n = s.installSlot d n) ∧
    (s.reinstalled h d).queue = (s.queue.filter fun c => !s.installLeaves c.kind) ∧
    (s.reinstalled h d).membership.sequence = s.membership.sequence -
      BitVec.ofNat 8 (s.queue.countP fun c => s.installLeaves c.kind && c.given.isSome) ∧
    (s.reinstalled h d).port = (s.depositAll (s.installNotes d)).port ∧
    (∀ n, ((s.reinstalled h d).ownEntry n).map Entry.state = installedEntry s.own d n) := by
  obtain ⟨u, u_is⟩ : ∃ u, u = (s.installPlan h d).installLocal := ⟨_, rfl⟩
  have slot (n : SlotNo) : u.slotAt n = s.slotAt n := by rw [u_is]; rfl
  have queue : u.queue = s.queue := by rw [u_is]; rfl
  have sequence : u.membership.sequence = s.membership.sequence := by rw [u_is]; rfl
  have port : u.port = s.port := by rw [u_is]; rfl
  have entry (n : SlotNo) : (u.ownEntry n).map Entry.state = installedEntry s.own d n := by
    rw [u_is]
    exact s.dumpTable_find d n
  have gone (c : QueuedCell) (mem : c ∈ s.queue) : (s.installLeaves c.kind && !c.inFlight) = s.installLeaves c.kind := by
    rw [landed c mem, Bool.not_false, Bool.and_true]
  rw [s.reinstalled_eq h d u u_is, State.rederiveSlots_eq]
  simp only [entry, slot]
  refine ⟨fun n => ?_, ?_, ?_, ?_, fun n => ?_⟩
  · exact State.planEdit_slotAt u (s.installSlot d) [] (s.installNotes d) n
  · show ((u.queue ++ []).filter fun c : QueuedCell => !(s.installLeaves c.kind && !c.inFlight)) = _
    rw [List.append_nil, queue]
    exact List.filter_congr fun c mem => by rw [gone c mem]
  · show u.membership.sequence - BitVec.ofNat 8 ((u.queue ++ []).countP fun c : QueuedCell =>
      (s.installLeaves c.kind && !c.inFlight) && c.given.isSome) = _
    rw [List.append_nil, queue, sequence, List.countP_congr fun c mem => by rw [gone c mem]]
  · exact State.depositAll_port port _
  · rw [← entry n]
    rfl

/-- R95, R19, R20: the state of slot n behind an install. -/
theorem installedSlot_ne_proposed (st : SlotState) (startOn : Bool) (e : Option EntryState) :
    installedSlot st startOn e ≠ .proposed := by
  rcases e with _ | _ | _ | _ <;> cases st <;> cases startOn <;> simp [installedSlot]

theorem installedSlot_dropping {st : SlotState} {startOn : Bool} {e : Option EntryState}
    (dropping : installedSlot st startOn e = .dropping) : e ≠ none := by
  rintro rfl
  cases st <;> cases startOn <;> simp [installedSlot] at dropping

/-- R95's table. -/
theorem installedSlot_eq (e : Option EntryState) (sl : Slot) :
    installedSlot sl.state sl.startOn e = match e, sl.state with
      | some .releasing, _ => .dropping
      | some _, .dropping => .dropping
      | some _, .off => if sl.startOn then .active else .dropping
      | some _, _ => .active
      | none, .dropping => .off
      | none, .proposed => .wanted
      | none, .active => .wanted
      | none, other => other := by
  rcases e with _ | _ | _ | _ <;> cases sl.state <;> rfl

/-- R20: the slots that an entry into MEMBER makes PROPOSED, and those it leaves DROPPING. -/
theorem entersProposed {r : SlotState} (starts : Bool) (other : r ≠ .proposed) :
    ((if starts ∨ r = .wanted then SlotState.proposed else r) == .proposed) = decide (starts = true ∨ r = .wanted) := by
  by_cases claims : starts = true ∨ r = .wanted
  · simp [claims]
  · simp [claims, other]

theorem entersDropping {r : SlotState} {starts : Bool} (off : starts = true → r = .off) :
    ((if starts ∨ r = .wanted then SlotState.proposed else r) == .dropping) = (r == .dropping) := by
  cases starts with
  | true => rw [off rfl]; rfl
  | false => cases r <;> rfl

/-- R25: the RELEASEs due at the entry, by the rederived state and the entry's. -/
theorem State.releaseDue_rederived {w : State} {n : SlotNo} {r : SlotState} {e : Option EntryState}
    (member : w.isMember = true) (slot : (w.slotAt n).state = r) (entry : (w.ownEntry n).map Entry.state = e)
    (own : r = .dropping → e ≠ none) : w.releaseDue n = (r == .dropping && e != some .releasing) := by
  have due : ((w.ownEntry n).any fun e => e.state == .pending || e.state == .held) = e.any fun e => e != .releasing := by
    rw [← entry, Option.any_map]
    exact congrArg (Option.any · _) (funext fun e => EntryState.current_iff e.state)
  rw [State.releaseDue, slot, member, due, Bool.and_true]
  by_cases is : r = .dropping
  · obtain ⟨e, rfl⟩ := Option.ne_none_iff_exists'.1 (own is)
    rw [is]
    cases e <;> rfl
  · rw [beq_false_of_ne is, Bool.false_and, Bool.false_and]

/-- R19: the slots that the install starts, by their mark. -/
def State.installStarts (n : SlotNo) : Bool := (s.installSlot d n).state == .off && (s.slotAt n).startOn

/-- R19, R20, R95: the state of slot n behind the install. -/
def State.installState (n : SlotNo) : SlotState :=
  if s.installStarts d n ∨ (s.installSlot d n).state = .wanted then .proposed else (s.installSlot d n).state

/-- What the entry into MEMBER finds behind the reinstall `w` of the DUMP at `s`. -/
structure State.Rederived (s : State) (d : DumpBody) (w : State) : Prop where
  slots : ∀ n, w.slotAt n = s.installSlot d n
  member : w.membership.state = .member
  entries : ∀ n, (w.ownEntry n).map Entry.state = installedEntry s.own d n

variable {s : State} {d : DumpBody} {w : State}

theorem State.Rederived.starts (h : s.Rederived d w) (n : SlotNo) : w.starts n = s.installStarts d n := by
  rw [State.starts, h.slots]
  rfl

theorem State.Rederived.claims_iff (h : s.Rederived d w) (n : SlotNo) :
    w.claimsAtEntry n = decide (s.installStarts d n = true ∨ (s.installSlot d n).state = .wanted) := by
  rw [State.claimsAtEntry, h.starts, h.slots, Bool.decide_or, Bool.decide_eq_true]
  rfl

theorem State.Rederived.claims (h : s.Rederived d w) (n : SlotNo) :
    w.claimsAtEntry n = (s.installState d n == .proposed) := by
  rw [h.claims_iff]
  exact (entersProposed (s.installStarts d n) (installedSlot_ne_proposed _ _ _)).symm

theorem State.Rederived.releases (h : s.Rederived d w) (n : SlotNo) :
    w.releaseDue n = (s.installState d n == .dropping && installedEntry s.own d n != some .releasing) := by
  have member : w.isMember = true := by rw [State.isMember, h.member]; rfl
  have dropping : (s.installState d n == .dropping) = ((s.installSlot d n).state == .dropping) :=
    entersDropping fun on => eq_of_beq (Bool.and_eq_true_iff.1 on).1
  rw [dropping]
  exact State.releaseDue_rederived member (congrArg Slot.state (h.slots n)) (h.entries n) installedSlot_dropping

theorem State.Rederived.enteredSlot (h : s.Rederived d w) (n : SlotNo) :
    enteredSlot w n = { s.installSlot d n with state := s.installState d n, startOn := false } := by
  rw [Machine.enteredSlot, h.slots, h.claims_iff]
  simp only [decide_eq_true_eq]
  rfl

/-- R96: the notices of an install in their order. -/
theorem State.Rederived.port (h : s.Rederived d w) (port : w.port = (s.depositAll (s.installNotes d)).port) :
    (State.deposit (if s.isMember then w.memberCells else w.memberCells.deposit (.state .member .install))
      (.recovery .installed)).port = (s.depositAll (s.installNotes d ++
        ((slotOrder.filter (s.installStarts d)).map fun n => Notice.slot n .wanted .start) ++
        (if s.isMember then [] else [.state .member .install]) ++ [.recovery .installed])).port := by
  have cells : w.memberCells.port = (s.depositAll (s.installNotes d ++
      ((slotOrder.filter (s.installStarts d)).map fun n => Notice.slot n .wanted .start))).port := by
    rw [State.memberCells_port, show w.starts = s.installStarts d from funext h.starts, State.depositAll_append]
    exact State.depositAll_port port _
  rw [State.depositAll_append]
  refine State.deposit_port ?_ _
  rw [State.depositAll_append]
  cases s.isMember with
  | false =>
    have noticed := State.deposit_port cells (.state .member .install)
    simpa only [Bool.false_eq_true, if_false, State.depositAll, List.foldl_cons, List.foldl_nil] using noticed
  | true => simpa only [if_true, State.depositAll, List.foldl_nil] using cells

end Install

/-- The parts of an install, each by its own equation. -/
theorem State.install_parts (s : State) (h : Header) (d : DumpBody)
    (landed : ∀ c ∈ s.queue, c.inFlight = false ∧ (s.installLeaves c.kind = true ∨ c.kind = .dump ∨ c.kind = .bye)) :
    (∀ n, (s.install h d).slotAt n = { s.installSlot d n with state := s.installState d n, startOn := false }) ∧
    (s.install h d).queue = (s.queue.filter fun c => !s.installLeaves c.kind) ++ [⟨.hello, none, false⟩] ++
      ((slotOrder.filter fun n => s.installState d n == .proposed).map fun n => ⟨.claim n, none, false⟩) ++
      ((slotOrder.filter fun n => s.installState d n == .dropping && installedEntry s.own d n != some .releasing).map
        fun n => ⟨.release n, none, false⟩) ∧
    (s.install h d).membership.sequence = s.membership.sequence -
      BitVec.ofNat 8 (s.queue.countP fun c => s.installLeaves c.kind && c.given.isSome) ∧
    (s.install h d).port.notices = (s.depositAll (s.installNotes d ++
        ((slotOrder.filter (s.installStarts d)).map fun n => Notice.slot n .wanted .start) ++
        (if s.isMember then [] else [.state .member .install]) ++ [.recovery .installed])).port.notices ∧
    (s.install h d).port.noticesLost = (s.depositAll (s.installNotes d ++
        ((slotOrder.filter (s.installStarts d)).map fun n => Notice.slot n .wanted .start) ++
        (if s.isMember then [] else [.state .member .install]) ++ [.recovery .installed])).port.noticesLost := by
  obtain ⟨slots, queue, sequence, port, entries⟩ := s.reinstalled_parts h d fun c mem => (landed c mem).1
  have installed := s.install_eq h d
  generalize s.install h d = t at installed ⊢
  generalize s.reinstalled h d = r at slots queue sequence port entries installed
  have behind : s.Rederived d (r.setState .member) := ⟨slots, rfl, entries⟩
  have w_queue : (r.setState .member).queue = r.queue := rfl
  have w_port : (r.setState .member).port = r.port := rfl
  have w_sequence : (r.setState .member).membership.sequence = r.membership.sequence := rfl
  generalize r.setState .member = w at behind w_queue w_port w_sequence installed
  have free : planFree w.queue := by
    intro c mem
    rw [w_queue, queue] at mem
    obtain ⟨old, kept⟩ := List.mem_filter.1 mem
    rcases (landed c old).2 with gone | dump | bye
    · rw [gone] at kept; cases kept
    · rw [dump]; rfl
    · rw [bye]; rfl
  have entered := w.memberCells_eq behind.member free
  have kept : t.claims = w.memberCells.claims ∧ t.queue = w.memberCells.queue ∧
      t.membership = w.memberCells.membership := by
    rw [installed]
    cases s.isMember <;> simp
  have notices := behind.port (w_port.trans port)
  refine ⟨fun n => ?_, ?_, ?_, ?_, ?_⟩
  · rw [State.slotAt, kept.1, ← State.slotAt, entered, State.planEdit_slotAt, behind.enteredSlot]
  · rw [kept.2.1, entered]
    show w.queue ++ List.map waiting _ = _
    rw [w_queue, queue, show w.claimsAtEntry = _ from funext behind.claims,
      show w.releaseDue = _ from funext behind.releases]
    simp [waiting, Function.comp_def]
  · rw [kept.2.2, entered]
    exact w_sequence.trans sequence
  · rw [installed, ← notices]
    rfl
  · rw [installed, ← notices]
    rfl

/-- Settles O24: the slots rederived, the plan's cells withdrawn, and the entry into MEMBER. -/
theorem installRederivesTheSlots : Obligations.InstallRederivesTheSlots := by
  intro s h d reinstall leaves queued t entry rederived starts state changed u
  have leaves_eq (c : QueuedCell) : s.installLeaves c.kind = leaves c := by
    obtain ⟨k, g, m⟩ := c
    cases k <;> simp [State.installLeaves, leaves, reinstall, QueueKind.isPlan, State.isMember]
  have rederived_eq (n : SlotNo) : (s.installSlot d n).state = rederived n := installedSlot_eq (entry n) (s.slotAt n)
  have starts_eq (n : SlotNo) : s.installStarts d n = starts n := by
    rw [State.installStarts, rederived_eq]
  have state_eq (n : SlotNo) : s.installState d n = state n := by
    rw [State.installState, rederived_eq, starts_eq]
  have notes : s.installNotes d = changed.map fun n => Notice.slot n (rederived n) .install := by
    simp only [State.installNotes, rederived_eq]
    rfl
  have parts := s.install_parts h d fun c mem => by rw [leaves_eq]; exact queued c mem
  simp only [leaves_eq, show s.installStarts d = starts from funext starts_eq, state_eq, notes] at parts
  exact parts

end Sys2Proof.Machine
end

section
set_option Elab.async false
/-! O11: the header code of R103 and R206: parities are linear in the positions, so one inverted position shows its own
number in the syndrome and two show the exclusive or of theirs. -/

namespace Sys2Proof.Machine

/-! ### Parities -/

theorem getD_set_self {α : Type} {l : List α} {p : Nat} (inside : p < l.length) (v x : α) : (l.set p v).getD p x = v := by
  rw [List.getD_eq_getElem?_getD, List.getElem?_set_self inside, Option.getD_some]

theorem getD_set_of_ne {α : Type} (l : List α) {p q : Nat} (ne : p ≠ q) (v x : α) : (l.set p v).getD q x = l.getD q x := by
  rw [List.getD_eq_getElem?_getD, List.getElem?_set_ne ne, List.getD_eq_getElem?_getD]

theorem oddParityFrom_set (sel : Nat → Bool) (v : Bool) (bits : List Bool) (start p : Nat) (inside : p < bits.length) :
    oddParityFrom sel start (bits.set p v) =
      ((sel (start + p) && (v != bits.getD p false)) != oddParityFrom sel start bits) := by
  induction bits generalizing start p with
  | nil => cases inside
  | cons b rest ih =>
    cases p with
    | zero =>
      simp only [List.set_cons_zero, oddParityFrom, List.getD_cons_zero, Nat.add_zero]
      cases sel start <;> cases v <;> cases b <;> cases oddParityFrom sel (start + 1) rest <;> rfl
    | succ p =>
      have moved : start + (p + 1) = start + 1 + p := by omega
      rw [List.set_cons_succ, oddParityFrom, ih (start + 1) p (Nat.lt_of_succ_lt_succ inside), oddParityFrom,
        List.getD_cons_succ, moved]
      cases oddParityFrom sel (start + 1) rest <;> cases sel start && b <;> simp

/-- What writing one position makes of a parity. -/
theorem oddParity_set (sel : Nat → Bool) {bits : List Bool} {p : Nat} (inside : p < bits.length) (v : Bool) :
    oddParity sel (bits.set p v) = ((sel p && (v != bits.getD p false)) != oddParity sel bits) := by
  rw [oddParity, oddParityFrom_set sel v bits 0 p inside, Nat.zero_add, oddParity]

theorem oddParity_invertAt (sel : Nat → Bool) {bits : List Bool} {p : Nat} (inside : p < bits.length) :
    oddParity sel (invertAt bits p) = (sel p != oddParity sel bits) := by
  rw [invertAt, oddParity_set sel inside, Bool.not_bne_self, Bool.and_true]

theorem invertAt_length (bits : List Bool) (p : Nat) : (invertAt bits p).length = bits.length := List.length_set

theorem invertAt_invertAt {bits : List Bool} {p : Nat} (inside : p < bits.length) : invertAt (invertAt bits p) p = bits := by
  rw [invertAt, invertAt, getD_set_self inside, Bool.not_not, List.set_set, List.getD_eq_getElem _ _ inside,
    List.set_getElem_self]

/-! ### The sent positions -/

theorem spreadBits_length (d : BitVec 64) : (spreadBits d).length = 72 := by
  rw [spreadBits, List.length_map, List.length_range]

theorem spreadBits_getD (d : BitVec 64) {p : Nat} (inside : p < 72) :
    (spreadBits d).getD p false = (positionData p).any fun i => d.getLsbD i := by
  rw [spreadBits, List.getD_eq_getElem?_getD, List.getElem?_map, List.getElem?_range inside, Option.map_some,
    Option.getD_some]
  cases positionData p <;> rfl

/-- The check bits in their places, in front of P. -/
def checkedBits (d : BitVec 64) : List Bool :=
  (List.range 7).foldl (fun bits i => bits.set (2 ^ i) (syndromeBit (spreadBits d) i)) (spreadBits d)

theorem headerPositions_eq (d : BitVec 64) : headerPositions d = (checkedBits d).set 0 (overallOdd (checkedBits d)) := rfl

theorem positionData_checks : ∀ i < 7, positionData (2 ^ i) = none := by decide

/-- What the first n check bits leave: the length, position 0 and the open check positions, and the data. -/
theorem checks_written (data : List Bool) (size : data.length = 72) (n : Nat) (le : n ≤ 7)
    (clear : ∀ i < 7, data.getD (2 ^ i) false = false) :
    let checked := (List.range n).foldl (fun bits i => bits.set (2 ^ i) (syndromeBit data i)) data
    checked.length = 72 ∧ (∀ p, (∀ i < n, 2 ^ i ≠ p) → checked.getD p false = data.getD p false) ∧
      ∀ j < 7, syndromeBit checked j = (decide (n ≤ j) && syndromeBit data j) := by
  induction n with
  | zero => exact ⟨size, fun _ _ => rfl, fun j _ => by simp⟩
  | succ n ih =>
    obtain ⟨length, kept, parities⟩ := ih (by omega)
    simp only [List.range_succ, List.foldl_append, List.foldl_cons, List.foldl_nil]
    generalize (List.range n).foldl (fun bits i => bits.set (2 ^ i) (syndromeBit data i)) data = checked at *
    have small : 2 ^ n ≤ 2 ^ 6 := Nat.pow_le_pow_right (by decide) (by omega)
    have inside : 2 ^ n < checked.length := by rw [length]; omega
    have open_place : checked.getD (2 ^ n) false = false := by
      rw [kept (2 ^ n) fun i lt same => absurd (Nat.pow_right_injective (le_refl 2) same) (by omega), clear n (by omega)]
    refine ⟨by rw [List.length_set, length], fun p other => ?_, fun j lt => ?_⟩
    · rw [getD_set_of_ne _ (other n (by omega)), kept p fun i lt => other i (by omega)]
    · rw [syndromeBit, oddParity_set _ inside, open_place, Nat.testBit_two_pow, Bool.bne_false, ← syndromeBit, parities j lt]
      by_cases same : n = j
      · subst same
        simp
      · have after : (n ≤ j) = (n + 1 ≤ j) := propext ⟨fun le => by omega, fun le => by omega⟩
        simp [same, after]

theorem spreadBits_checks_clear (d : BitVec 64) : ∀ i < 7, (spreadBits d).getD (2 ^ i) false = false := by
  intro i lt
  have inside : 2 ^ i < 72 := lt_of_le_of_lt (Nat.pow_le_pow_right (by decide) (by omega : i ≤ 6)) (by decide)
  rw [spreadBits_getD d inside, positionData_checks i lt]
  rfl

theorem checkedBits_parts (d : BitVec 64) :
    (checkedBits d).length = 72 ∧ (∀ p, (∀ i < 7, 2 ^ i ≠ p) → (checkedBits d).getD p false = (spreadBits d).getD p false) ∧
      ∀ j < 7, syndromeBit (checkedBits d) j = false := by
  obtain ⟨length, kept, parities⟩ :=
    checks_written (spreadBits d) (spreadBits_length d) 7 (le_refl 7) (spreadBits_checks_clear d)
  refine ⟨length, kept, fun j lt => ?_⟩
  rw [checkedBits, parities j lt, decide_eq_false (by omega : ¬ 7 ≤ j), Bool.false_and]

theorem headerPositions_length (d : BitVec 64) : (headerPositions d).length = 72 := by
  rw [headerPositions_eq, List.length_set, (checkedBits_parts d).1]

theorem headerPositions_syndromeBit (d : BitVec 64) {j : Nat} (lt : j < 7) : syndromeBit (headerPositions d) j = false := by
  obtain ⟨length, -, parities⟩ := checkedBits_parts d
  rw [headerPositions_eq, syndromeBit, oddParity_set _ (by omega), Nat.zero_testBit, Bool.false_and, Bool.false_bne]
  exact parities j lt

theorem headerPositions_even (d : BitVec 64) : overallOdd (headerPositions d) = false := by
  obtain ⟨length, kept, -⟩ := checkedBits_parts d
  have clear : (checkedBits d).getD 0 false = false := by
    rw [kept 0 fun i _ => (Nat.two_pow_pos i).ne', spreadBits_getD d (by decide)]
    rfl
  rw [headerPositions_eq, overallOdd, oddParity_set _ (by omega), clear, ← overallOdd]
  cases overallOdd (checkedBits d) <;> rfl

theorem dataPosition_facts : ∀ i < 64, dataPosition i < 72 ∧ dataPosition i ≠ 0 ∧ (∀ j < 7, 2 ^ j ≠ dataPosition i) ∧
    positionData (dataPosition i) = some i := by decide

/-- R206: the data bits stand at their positions. -/
theorem headerPositions_data (d : BitVec 64) {i : Nat} (lt : i < 64) :
    (headerPositions d).getD (dataPosition i) false = d.getLsbD i := by
  obtain ⟨inside, front, places, data⟩ := dataPosition_facts i lt
  rw [headerPositions_eq, getD_set_of_ne _ front.symm, (checkedBits_parts d).2.1 _ places, spreadBits_getD d inside, data]
  rfl

/-! ### Data words -/

theorem bitsWhere_getLsbD (n : Nat) (f : Nat → Bool) (i : Nat) : (bitsWhere n f).getLsbD i = (decide (i < n) && f i) := by
  have upTo (m : Nat) (le : m ≤ n) :
      ((List.range m).foldl (fun acc i => if f i then acc ||| BitVec.twoPow n i else acc) 0 : BitVec n).getLsbD i =
        (decide (i < m) && f i) := by
    induction m with
    | zero => simp
    | succ m ih =>
      rw [List.range_succ, List.foldl_append, List.foldl_cons, List.foldl_nil]
      have before := ih (by omega)
      generalize List.foldl _ (0 : BitVec n) (List.range m) = low at before ⊢
      have one : (if f m then low ||| BitVec.twoPow n m else low).getLsbD i =
          (low.getLsbD i || (f m && (decide (m < n) && decide (m = i)))) := by
        cases f m <;> simp
      rw [one, before]
      by_cases here : m = i
      · subst here
        simp [show m < n by omega]
      · have same : (i < m + 1) = (i < m) := propext ⟨fun lt => by omega, fun lt => by omega⟩
        simp [same, here]
  exact upTo n (le_refl n)

theorem positionsWord_headerPositions (d : BitVec 64) : positionsWord (headerPositions d) = d := by
  refine BitVec.eq_of_getLsbD_eq fun i lt => ?_
  rw [positionsWord, bitsWhere_getLsbD, headerPositions_data d lt, decide_eq_true lt, Bool.true_and]

/-- P carries no data. -/
theorem positionsWord_invertAt_zero (bits : List Bool) : positionsWord (invertAt bits 0) = positionsWord bits := by
  refine BitVec.eq_of_getLsbD_eq fun i lt => ?_
  rw [positionsWord, positionsWord, bitsWhere_getLsbD, bitsWhere_getLsbD, invertAt,
    getD_set_of_ne _ (dataPosition_facts i lt).2.1.symm]

/-! ### The check -/

/-- The number whose seven low bits are `f`. -/
def sevenBits (f : Nat → Bool) : Nat :=
  (f 0).toNat + 2 * (f 1).toNat + 4 * (f 2).toNat + 8 * (f 3).toNat + 16 * (f 4).toNat + 32 * (f 5).toNat + 64 * (f 6).toNat

theorem sevenBits_congr {f g : Nat → Bool} (same : ∀ i < 7, f i = g i) : sevenBits f = sevenBits g := by
  rw [sevenBits, same 0 (by decide), same 1 (by decide), same 2 (by decide), same 3 (by decide), same 4 (by decide),
    same 5 (by decide), same 6 (by decide), sevenBits]

theorem syndrome_of_bits {bits : List Bool} {f : Nat → Bool} (is : ∀ i < 7, syndromeBit bits i = f i) :
    syndrome bits = sevenBits f := sevenBits_congr is

theorem sevenBits_testBit : ∀ p < 72, sevenBits p.testBit = p := by decide

theorem sevenBits_zero {f : Nat → Bool} (zero : sevenBits f = 0) : ∀ i < 7, f i = false := by
  intro i lt
  simp only [sevenBits, Nat.add_eq_zero_iff, Nat.mul_eq_zero, Bool.toNat_eq_zero] at zero
  interval_cases i <;> simp_all

theorem headerPositions_syndrome (d : BitVec 64) : syndrome (headerPositions d) = 0 :=
  syndrome_of_bits (f := fun _ => false) fun _ lt => headerPositions_syndromeBit d lt

theorem checkHeader_headerPositions (d : BitVec 64) : checkHeader (headerPositions d) = .good (headerPositions d) := by
  rw [checkHeader, headerPositions_even, headerPositions_syndrome]
  rfl

/-- R103: one wrong position shows itself. -/
theorem checkHeader_one_wrong (d : BitVec 64) {p : Nat} (lt : p < 72) :
    checkHeader (invertAt (headerPositions d) p) =
      .repaired (if p = 0 then invertAt (headerPositions d) p else headerPositions d) := by
  have inside : p < (headerPositions d).length := by rw [headerPositions_length]; exact lt
  have odd : overallOdd (invertAt (headerPositions d) p) = true := by
    rw [overallOdd, oddParity_invertAt _ inside, ← overallOdd, headerPositions_even]
    rfl
  have shows : syndrome (invertAt (headerPositions d) p) = p := by
    refine (syndrome_of_bits fun i small => ?_).trans (sevenBits_testBit p lt)
    rw [syndromeBit, oddParity_invertAt _ inside, ← syndromeBit, headerPositions_syndromeBit d small, Bool.bne_false]
  rw [checkHeader, odd, shows]
  by_cases zero : p = 0
  · simp [zero]
  · simp [zero, show p ≤ 71 by omega, invertAt_invertAt inside]

/-- R103: two wrong positions leave the whole even and the syndrome not 0. -/
theorem checkHeader_two_wrong (d : BitVec 64) {p q : Nat} (lt : p < 72) (lt' : q < 72) (ne : p ≠ q) :
    checkHeader (invertAt (invertAt (headerPositions d) p) q) = .uncorrectable := by
  have inside : p < (headerPositions d).length := by rw [headerPositions_length]; exact lt
  have inside' : q < (invertAt (headerPositions d) p).length := by rw [invertAt_length, headerPositions_length]; exact lt'
  have even : overallOdd (invertAt (invertAt (headerPositions d) p) q) = false := by
    rw [overallOdd, oddParity_invertAt _ inside', oddParity_invertAt _ inside, ← overallOdd, headerPositions_even]
    rfl
  have shows : syndrome (invertAt (invertAt (headerPositions d) p) q) = sevenBits fun i => q.testBit i != p.testBit i := by
    refine syndrome_of_bits fun i small => ?_
    rw [syndromeBit, oddParity_invertAt _ inside', oddParity_invertAt _ inside, ← syndromeBit,
      headerPositions_syndromeBit d small, Bool.bne_false]
  have seen : syndrome (invertAt (invertAt (headerPositions d) p) q) ≠ 0 := by
    rw [shows]
    intro zero
    have same : sevenBits q.testBit = sevenBits p.testBit :=
      sevenBits_congr fun i small => bne_eq_false_iff_eq.1 (sevenBits_zero zero i small)
    rw [sevenBits_testBit p lt, sevenBits_testBit q lt'] at same
    exact ne same.symm
  rw [checkHeader, even]
  exact if_neg seen

/-- Settles O11: the parities are linear, so the syndrome is the exclusive or of the wrong positions. -/
theorem headerRepairsOneErrorFindsTwo : Obligations.HeaderRepairsOneErrorFindsTwo := by
  intro d sent wrong
  refine ⟨headerPositions_length d, checkHeader_headerPositions d, positionsWord_headerPositions d, fun p lt => ?_,
    fun p lt q lt' ne => checkHeader_two_wrong d lt lt' ne⟩
  refine ⟨_, checkHeader_one_wrong d lt, ?_⟩
  split
  next zero => rw [zero, positionsWord_invertAt_zero, positionsWord_headerPositions]
  next => exact positionsWord_headerPositions d

end Sys2Proof.Machine
end

section
set_option Elab.async false
/-! O12, O13: a cell's levels, driven with fill bits and read to idle (R100, R101, R105). -/

namespace Sys2Proof.Machine

/-! ### The abort mark -/

/-- R101: a dominant run longer than 6 ends the cell. -/
theorem takeBits_long_run (m run : Nat) (tail : List Level) (le : run ≤ 6) (long : 6 < run + m) :
    (takeBits dominant run (List.replicate m dominant ++ tail)).violated = true := by
  induction m generalizing run with
  | zero => omega
  | succ m ih =>
    rw [List.replicate_succ, List.cons_append, takeBits, if_pos rfl]
    by_cases short : run < 6
    · rw [if_pos short]
      exact ih (run + 1) short (by omega)
    · rw [if_neg short, if_pos rfl]

theorem takeBits_mark (lvl : Level) (run : Nat) (tail : List Level) (le : lvl = dominant → run ≤ 6) :
    (takeBits lvl run (List.replicate 16 dominant ++ tail)).violated = true := by
  cases lvl with
  | false => exact takeBits_long_run 16 run tail (le rfl) (by omega)
  | true =>
    have behind := takeBits_long_run 15 1 tail (by decide) (by decide)
    rw [List.replicate_succ, List.cons_append, takeBits, if_neg (by decide)]
    by_cases short : run < 6
    · rw [if_pos short]
      exact behind
    · rw [if_neg short]
      split
      · exact behind
      · rfl

/-- R105, R114: whatever was taken before, an abort mark ends the cell. -/
theorem takeBits_aborted (levels : List Level) (lvl : Level) (run : Nat) (tail : List Level)
    (le : lvl = dominant → run ≤ 6) :
    (takeBits lvl run (levels ++ (List.replicate 16 dominant ++ tail))).violated = true := by
  induction levels generalizing lvl run with
  | nil => exact takeBits_mark lvl run tail le
  | cons b rest ih =>
    have fresh := ih b 1 fun _ => by decide
    rw [List.cons_append, takeBits]
    by_cases same : b = lvl
    · rw [if_pos same]
      by_cases short : run < 6
      · rw [if_pos short]
        exact ih b (run + 1) fun _ => short
      · rw [if_neg short]
        by_cases low : b = dominant
        · rw [if_pos low]
        · rw [if_neg low]
          exact ih b (run + 1) fun is => absurd is low
    · rw [if_neg same]
      by_cases short : run < 6
      · rw [if_pos short]
        exact fresh
      · rw [if_neg short]
        split
        · exact fresh
        · rfl

/-- The start delimiter (R100). -/
def startDelimiter : List Level := List.replicate 8 dominant ++ [recessive]

theorem judgeLevels_delimited (levels : List Level) :
    judgeLevels (startDelimiter ++ levels) = judgeTaken (takeBits recessive 1 levels) := rfl

/-- Settles O13: a mark within the delimiter leaves nine dominant levels in front; behind it the mark is a violation. -/
theorem abortMarkDamagesTheCell : Obligations.AbortMarkDamagesTheCell := by
  intro c n
  have signal : cellSignal c = startDelimiter ++ stuff recessive 1 (cellBits c) := rfl
  rw [untilIdle]
  generalize List.replicate _ recessive = tail
  by_cases behind : 9 ≤ n
  · rw [if_pos behind, signal, List.take_append, List.take_of_length_le behind, List.append_assoc, List.append_assoc,
      judgeLevels_delimited, judgeTaken, if_pos (takeBits_aborted _ _ _ _ fun is => absurd is (by decide)),
      Judged.damagedBy]
  · rw [if_neg behind]
    have early : (cellSignal c).take n = List.replicate n dominant := by
      have short : n ≤ 8 := by omega
      rw [signal, startDelimiter, List.append_assoc, List.take_append_of_le_length (by simpa using short),
        List.take_replicate, Nat.min_eq_left short]
    have nine : ((cellSignal c).take n ++ List.replicate 16 dominant ++ tail).take 9 = List.replicate 9 dominant := by
      rw [early, List.replicate_append_replicate, List.take_append_of_le_length (by simp), List.take_replicate,
        Nat.min_eq_left (by omega)]
    rw [judgeLevels, nine, if_neg (by decide)]
    rfl

/-! ### Runs of levels -/

/-- How long the levels have been recessive at their end, after a run of `run`. -/
def recessiveRun (run : Nat) (levels : List Level) : Nat :=
  levels.foldl (fun r b => if b == recessive then r + 1 else 0) run

theorem recessiveTail_eq (levels : List Level) : recessiveTail levels = recessiveRun 0 levels := by
  induction levels using List.reverseRecOn with
  | nil => rfl
  | append_singleton levels b ih =>
    have last : recessiveRun 0 (levels ++ [b]) = if b == recessive then recessiveRun 0 levels + 1 else 0 := by
      rw [recessiveRun, List.foldl_append]
      rfl
    rw [last, ← ih, recessiveTail, List.reverse_append]
    cases b <;> rfl

theorem exists_recessiveTail (levels : List Level) :
    ∃ before, levels = before ++ List.replicate (recessiveTail levels) recessive := by
  have split := List.takeWhile_append_dropWhile (p := (· == recessive)) (l := levels.reverse)
  have same : levels.reverse.takeWhile (· == recessive) = List.replicate (recessiveTail levels) recessive :=
    List.eq_replicate_iff.2 ⟨rfl, fun b mem => eq_of_beq (List.mem_takeWhile_imp (p := (· == recessive)) mem)⟩
  refine ⟨(levels.reverse.dropWhile (· == recessive)).reverse, ?_⟩
  rw [← List.reverse_replicate, ← List.reverse_append, ← same, split, List.reverse_reverse]

theorem noIdleRun_append (levels : List Level) (run k : Nat) (quiet : noIdleRun run levels = true)
    (short : recessiveRun run levels + k < 10) : noIdleRun run (levels ++ List.replicate k recessive) = true := by
  induction levels generalizing run with
  | nil =>
    induction k generalizing run with
    | zero => rfl
    | succ k ih =>
      have here : run + (k + 1) < 10 := short
      rw [List.nil_append, List.replicate_succ, noIdleRun, if_pos (by decide), Bool.and_eq_true]
      exact ⟨decide_eq_true (by omega), ih (run + 1) rfl (by show run + 1 + k < 10; omega)⟩
  | cons b rest ih =>
    rw [List.cons_append, noIdleRun]
    cases b with
    | false => exact ih 0 quiet short
    | true =>
      obtain ⟨lt, quiet⟩ := Bool.and_eq_true_iff.1 quiet
      exact Bool.and_eq_true_iff.2 ⟨lt, ih (run + 1) quiet short⟩

/-- What a run of one level adds to the recessive run. -/
def runBehind (lvl : Level) (run : Nat) : Nat := if lvl = recessive then run else 0

/-- R100: with its fill bits no run is longer than 6. -/
theorem stuff_runs (bits : List Bool) (lvl : Level) (run : Nat) (le : run ≤ 6) :
    noIdleRun (runBehind lvl run) (stuff lvl run bits) = true ∧
      recessiveRun (runBehind lvl run) (stuff lvl run bits) ≤ 6 := by
  induction bits generalizing lvl run with
  | nil =>
    refine ⟨rfl, ?_⟩
    show runBehind lvl run ≤ 6
    unfold runBehind
    split <;> omega
  | cons b rest ih =>
    rw [stuff]
    by_cases full : run = 6
    · rw [if_pos full]
      subst full
      have next := ih b (if b = !lvl then 2 else 1) (by split <;> decide)
      cases lvl <;> cases b <;> exact next
    · rw [if_neg full]
      have next := ih b (if b = lvl then run + 1 else 1) (by split <;> omega)
      have room : decide (run + 1 < 10) = true := decide_eq_true (by omega)
      cases lvl <;> cases b <;> simp_all [noIdleRun, recessiveRun, runBehind]

/-- R101: a cell's levels up to idle, for the receiver's well-formed operand. -/
theorem cellLevels_untilIdle (bits : List Bool) :
    cellLevels (untilIdle (startDelimiter ++ stuff recessive 1 bits)) = true := by
  obtain ⟨quiet, short⟩ := stuff_runs bits recessive 1 (by decide)
  generalize stuff recessive 1 bits = levels at quiet short
  have quiet : noIdleRun 0 (startDelimiter ++ levels) = true := quiet
  have short : recessiveRun 0 (startDelimiter ++ levels) ≤ 6 := short
  have head : (startDelimiter ++ levels).head? = some dominant := rfl
  rw [untilIdle, recessiveTail_eq]
  generalize startDelimiter ++ levels = signal at *
  obtain ⟨k, is⟩ : ∃ k, 10 - recessiveRun 0 signal = k + 1 := ⟨9 - recessiveRun 0 signal, by omega⟩
  rw [is, cellLevels]
  have first : (signal ++ List.replicate (k + 1) recessive).headD recessive = dominant := by
    cases signal with
    | nil => cases head
    | cons b rest => exact Option.some.inj head
  have inner : noIdleRun 0 (signal ++ List.replicate (k + 1) recessive).dropLast = true := by
    rw [List.replicate_succ', ← List.append_assoc, List.dropLast_concat]
    exact noIdleRun_append signal 0 k quiet (by omega)
  obtain ⟨before, tail⟩ := exists_recessiveTail signal
  have ten : signal ++ List.replicate (k + 1) recessive = before ++ List.replicate 10 recessive := by
    rw [recessiveTail_eq] at tail
    have sum : recessiveRun 0 signal + (k + 1) = 10 := by omega
    rw [← sum, ← List.replicate_append_replicate (n := recessiveRun 0 signal), ← List.append_assoc, ← tail]
  have long : 10 ≤ (signal ++ List.replicate (k + 1) recessive).length := by
    rw [ten, List.length_append, List.length_replicate]
    omega
  have idle : ((signal ++ List.replicate (k + 1) recessive).drop
      ((signal ++ List.replicate (k + 1) recessive).length - 10)).all (· == recessive) = true := by
    rw [ten, List.length_append, List.length_replicate, Nat.add_sub_cancel, List.drop_left]
    rfl
  rw [first, inner, idle, decide_eq_true long]
  rfl

/-! ### Taking the bits back -/

/-- Behind a cell the pair stays recessive: nothing dominant follows and nothing is violated. -/
theorem takeBits_recessive (k run : Nat) :
    (takeBits recessive run (List.replicate k recessive)).dominantAhead = false ∧
      (takeBits recessive run (List.replicate k recessive)).violated = false := by
  induction k generalizing run with
  | zero => exact ⟨rfl, rfl⟩
  | succ k ih =>
    obtain ⟨quiet, whole⟩ := ih (run + 1)
    rw [List.replicate_succ, takeBits, if_pos rfl]
    by_cases short : run < 6
    · rw [if_pos short]
      exact ⟨by simp [quiet], whole⟩
    · rw [if_neg short, if_neg (by decide)]
      exact ⟨quiet, whole⟩

theorem takeBits_idle (lvl : Level) (run k : Nat) (le : run ≤ 6) :
    (takeBits lvl run (List.replicate k recessive)).dominantAhead = false ∧
      (takeBits lvl run (List.replicate k recessive)).violated = false := by
  cases lvl with
  | true => exact takeBits_recessive k run
  | false =>
    cases k with
    | zero => exact ⟨rfl, rfl⟩
    | succ k =>
      obtain ⟨quiet, whole⟩ := takeBits_recessive k 1
      rw [List.replicate_succ, takeBits, if_neg (by decide)]
      by_cases short : run < 6
      · rw [if_pos short]
        exact ⟨by simp [quiet], whole⟩
      · rw [if_neg short, if_pos (by omega)]
        exact ⟨by simp [quiet], whole⟩

/-- What a receiver takes from `bits` and an idle pair: the bits, none of them violated, nothing dominant behind the
last one. -/
structure TakesBack (bits : List Bool) (t : Taken) : Prop where
  whole : t.violated = false
  taken : bits <+: t.bits.map Prod.fst
  ended : bits ≠ [] → (t.bits.getD (bits.length - 1) (false, false)).2 = false
  quiet : bits = [] → t.dominantAhead = false

/-- R100, R101: the fill bits go out as they came in. -/
theorem takeBits_stuff (bits : List Bool) (lvl : Level) (run k : Nat) (le : run ≤ 6) :
    TakesBack bits (takeBits lvl run (stuff lvl run bits ++ List.replicate k recessive)) := by
  induction bits generalizing lvl run with
  | nil =>
    obtain ⟨quiet, whole⟩ := takeBits_idle lvl run k le
    exact ⟨whole, List.nil_prefix, fun ne => absurd rfl ne, fun _ => quiet⟩
  | cons b rest ih =>
    have step (t : Taken) (sub : TakesBack rest t) (ahead : Bool) :
        TakesBack (b :: rest) ⟨(b, t.dominantAhead) :: t.bits, ahead, t.violated⟩ := by
      refine ⟨sub.whole, ?_, fun _ => ?_, fun is => by cases is⟩
      · exact List.cons_prefix_cons.2 ⟨rfl, sub.taken⟩
      · cases rest with
        | nil => exact sub.quiet rfl
        | cons c rest => exact sub.ended (List.cons_ne_nil c rest)
    have data (lvl : Level) (run : Nat) (short : run < 6) : TakesBack (b :: rest)
        (takeBits lvl run (b :: (stuff b (if b = lvl then run + 1 else 1) rest ++ List.replicate k recessive))) := by
      rw [takeBits]
      by_cases same : b = lvl
      · rw [if_pos same, if_pos same, if_pos short]
        exact step _ (ih b (run + 1) short) _
      · rw [if_neg same, if_neg same, if_pos short]
        exact step _ (ih b 1 (by decide)) _
    rw [stuff]
    by_cases full : run = 6
    · subst full
      rw [if_pos rfl, List.cons_append, List.cons_append, takeBits, if_neg (Bool.not_ne_self lvl),
        if_neg (by decide), if_pos rfl]
      obtain ⟨whole, taken, ended, -⟩ := data (!lvl) 1 (by decide)
      exact ⟨whole, taken, ended, fun is => by cases is⟩
    · rw [if_neg full, List.cons_append]
      exact data lvl run (by omega)

/-! ### The cell's bits read back -/

theorem byteOfLinkBits_linkBits (b : Byte) : byteOfLinkBits (b.getLsbD 0) (b.getLsbD 1) (b.getLsbD 2) (b.getLsbD 3)
    (b.getLsbD 4) (b.getLsbD 5) (b.getLsbD 6) (b.getLsbD 7) = b := by
  revert b
  decide

theorem bytesOfLinkBits_linkBits (bytes : List Byte) : bytesOfLinkBits (bytes.flatMap linkBits) = bytes := by
  induction bytes with
  | nil => rfl
  | cons b rest ih =>
    rw [List.flatMap_cons, linkBits]
    show byteOfLinkBits .. :: bytesOfLinkBits (rest.flatMap linkBits) = _
    rw [byteOfLinkBits_linkBits, ih]

theorem linkBits_length (bytes : List Byte) : (bytes.flatMap linkBits).length = 8 * bytes.length := by
  induction bytes with
  | nil => rfl
  | cons b rest ih =>
    rw [List.flatMap_cons, List.length_append, ih, List.length_cons, linkBits]
    simp only [List.length_cons, List.length_nil]
    omega

theorem getD_behind (before rest : List Byte) (i : Nat) : (before ++ rest).getD (before.length + i) 0 = rest.getD i 0 := by
  rw [List.getD_append_right _ _ _ _ (Nat.le_add_right ..), Nat.add_sub_cancel_left]

theorem wordAt_append (before rest : List Byte) (i : Nat) : wordAt (before ++ rest) (before.length + i) = wordAt rest i := by
  rw [wordAt, Nat.add_assoc, getD_behind, getD_behind, wordAt]

/-- Section 11.1: the fields of the data word are the header's. -/
theorem Header.ofDataWord_dataWord (h : Header) : Header.ofDataWord h.dataWord = h := by
  obtain ⟨kind, sender, frame, sequence, length, flags, aux⟩ := h
  have past {v w start len : Nat} {hi : BitVec v} {lo : BitVec w} {x : BitVec len} (le : w ≤ start)
      (is : hi.extractLsb' (start - w) len = x) : (hi ++ lo).extractLsb' start len = x :=
    (BitVec.extractLsb'_append_eq_of_le le).trans is
  have here {v w : Nat} {hi : BitVec v} {lo : BitVec w} : (hi ++ lo).extractLsb' 0 w = lo :=
    BitVec.extractLsb'_append_eq_right
  have sender_is : (BitVec.ofNat 4 sender.val).toFin = sender :=
    Fin.ext (Nat.mod_eq_of_lt sender.isLt)
  have fields : (aux ++ flags ++ length ++ sequence ++ frame ++ BitVec.ofNat 4 sender.val ++ kind).extractLsb' 4 4 =
      BitVec.ofNat 4 sender.val := past (by decide) here
  simp only [Header.ofDataWord, Header.dataWord, Header.mk.injEq]
  exact ⟨here, (congrArg BitVec.toFin fields).trans sender_is, past (by decide) (past (by decide) here),
    past (by decide) (past (by decide) (past (by decide) here)),
    past (by decide) (past (by decide) (past (by decide) (past (by decide) here))),
    past (by decide) (past (by decide) (past (by decide) (past (by decide) (past (by decide) here)))),
    past (by decide) (past (by decide) (past (by decide) (past (by decide) (past (by decide) (past (by decide)
      BitVec.extractLsb'_eq_self)))))⟩

/-- How many bits a cell's length announces (section 5.1). -/
def announcedBits (len : Nat) : Nat := if len = 0 then 72 else 72 + 8 * (len + 2)

/-- The payload and its CRC, on the link. -/
def payloadBits (payload : List Byte) : List Bool :=
  if payload = [] then [] else (payload ++ wordBytes (crc16 payload)).flatMap linkBits

theorem cellBits_eq (c : Cell) : cellBits c = headerPositions c.header.dataWord ++ payloadBits c.payload := rfl

theorem cellBits_length (c : Cell) : (cellBits c).length = announcedBits c.payload.length := by
  rw [cellBits_eq, List.length_append, headerPositions_length, payloadBits, announcedBits]
  by_cases empty : c.payload = []
  · rw [if_pos empty, if_pos (List.length_eq_zero_iff.2 empty)]
    rfl
  · rw [if_neg empty, if_neg (mt List.length_eq_zero_iff.1 empty), linkBits_length, List.length_append]
    rfl

/-- R104, R105: a payload taken back whole is heard. -/
theorem judgePayload_whole {taken : List (Bool × Bool)} (c : Cell) (small : c.payload.length ≤ 2050)
    (fits : c.header.length.toNat = c.payload.length) (back : cellBits c <+: taken.map Prod.fst)
    (ended : (taken.getD ((cellBits c).length - 1) (false, false)).2 = false) :
    judgePayload taken c.header false = ⟨.heard c, none, false⟩ := by
  have long : announcedBits c.payload.length ≤ taken.length := by
    have le := back.length_le
    rwa [cellBits_length, List.length_map] at le
  rw [cellBits_length] at ended
  have payload : ((taken.take (announcedBits c.payload.length)).drop 72).map Prod.fst = payloadBits c.payload := by
    obtain ⟨more, is⟩ := back
    have front := cellBits_length c
    rw [List.map_drop, List.map_take, ← is, ← front, List.take_left, cellBits_eq,
      ← headerPositions_length c.header.dataWord, List.drop_left]
  have need : (if c.payload.length = 0 then 72 else 72 + 8 * (c.payload.length + 2)) = announcedBits c.payload.length := rfl
  rw [judgePayload]
  simp only [fits, need]
  rw [if_neg (by omega), if_neg (by omega), ended, payload]
  obtain ⟨h, bytes⟩ := c
  cases bytes with
  | nil => rfl
  | cons b rest =>
    have read : bytesOfLinkBits (payloadBits (b :: rest)) = (b :: rest) ++ wordBytes (crc16 (b :: rest)) :=
      bytesOfLinkBits_linkBits _
    have sum : wordAt ((b :: rest) ++ wordBytes (crc16 (b :: rest))) (b :: rest).length = crc16 (b :: rest) := by
      have at_end := wordAt_append (b :: rest) (wordBytes (crc16 (b :: rest))) 0
      have word := wordAt_wordBytes (crc16 (b :: rest)) []
      rw [List.append_nil] at word
      exact at_end.trans word
    simp only [read, List.take_left, sum, if_true]
    rfl

/-- Settles O12: the fill bits go out again, the header checks, and the payload's CRC is its own. -/
theorem cellSignalIsHeardAsSent : Obligations.CellSignalIsHeardAsSent := by
  intro c small fits
  refine ⟨cellLevels_untilIdle (cellBits c), ?_⟩
  have levels : untilIdle (cellSignal c) = startDelimiter ++ (stuff recessive 1 (cellBits c) ++
      List.replicate (10 - recessiveTail (cellSignal c)) recessive) := List.append_assoc ..
  rw [levels, judgeLevels_delimited]
  obtain ⟨whole, taken, ended, -⟩ :=
    takeBits_stuff (cellBits c) recessive 1 (10 - recessiveTail (cellSignal c)) (by decide)
  generalize takeBits recessive 1 _ = t at *
  have size := cellBits_length c
  have least : 72 ≤ announcedBits c.payload.length := by unfold announcedBits; split <;> omega
  have long : 72 ≤ t.bits.length := by
    have le := taken.length_le
    rw [List.length_map] at le
    omega
  have header : (t.bits.take 72).map Prod.fst = headerPositions c.header.dataWord := by
    obtain ⟨more, is⟩ := taken
    rw [List.map_take, ← is, cellBits_eq, List.append_assoc, ← headerPositions_length c.header.dataWord, List.take_left]
  rw [judgeTaken, whole, header, checkHeader_headerPositions]
  simp only [Bool.false_eq_true, if_false, Nat.not_lt.2 long, positionsWord_headerPositions, Header.ofDataWord_dataWord]
  exact judgePayload_whole c small fits taken (ended (List.ne_nil_of_length_pos (by omega)))

end Sys2Proof.Machine
end

section
set_option Elab.async false
/-! O14: the payloads of HELLO, CLAIM, RELEASE and DUMP read back (section 11.3, R20, R67, R90, R207). -/

namespace Sys2Proof.Machine

/-! ### HELLO and CLAIM -/

/-- A word is its two bytes. -/
theorem word_halves (w : Word) : w.extractLsb' 8 8 ++ w.extractLsb' 0 8 = w := wordAt_wordBytes w []

theorem helloOf_bytes (b : HelloBody) : helloOf b.bytes = b := by
  obtain ⟨width, height, timeout, digest, present⟩ := b
  simp only [helloOf, HelloBody.bytes, wordBytes, wordAt, List.cons_append, List.nil_append, List.getD_cons_succ,
    List.getD_cons_zero, word_halves]

theorem regionAt_bytes (r : Region) (rest : List Byte) : regionAt (r.bytes ++ rest) 0 = r := by
  obtain ⟨row0, rows, col0, cols⟩ := r
  simp only [regionAt, Region.bytes, wordBytes, wordAt, List.cons_append, List.nil_append, List.getD_cons_succ,
    List.getD_cons_zero, word_halves, Nat.zero_add]

theorem claimOf_bytes (b : ClaimBody) : claimOf b.bytes = b := by
  have region : regionAt (b.slot :: b.format :: b.region.bytes) 2 = regionAt (b.region.bytes ++ []) 0 := by
    rw [List.append_nil]
    rfl
  rw [claimOf, ClaimBody.bytes, region, regionAt_bytes]
  rfl

theorem format_ofBits_code (f : Format) : Format.ofBits (BitVec.ofNat 8 f.code).toNat = f := by cases f <;> rfl

theorem slotByte_toNat (n : SlotNo) : (BitVec.ofNat 8 n.val).toNat = n.val := by
  rw [BitVec.toNat_ofNat, Nat.mod_eq_of_lt (by omega)]

theorem stationBits_getLsbD (p : Station → Bool) (i : Station) : (stationBits p).getLsbD i.val = p i := by
  rw [stationBits, bitsWhere_getLsbD, decide_eq_true i.isLt, Bool.true_and, Fin.ofNat_val_eq_self]

/-! ### Entry records -/

theorem owner_slot_byte : ∀ (o : Station) (n : SlotNo),
    ((BitVec.ofNat 8 (o.val + 16 * n.val)).extractLsb' 0 4).toFin = o ∧
      ((BitVec.ofNat 8 (o.val + 16 * n.val)).extractLsb' 4 2).toFin = n := by decide

theorem format_state_byte (f : Format) (st : EntryState) (mark : Bool) :
    Format.ofBits ((BitVec.ofNat 8 (f.code + 4 * st.code + 128 * mark.toNat)).extractLsb' 0 2).toNat = f ∧
      EntryState.ofCode ((BitVec.ofNat 8 (f.code + 4 * st.code + 128 * mark.toNat)).extractLsb' 2 2).toNat = some st := by
  cases f <;> cases st <;> cases mark <;> decide

theorem entryAt_append (before rest : List Byte) : entryAt (before ++ rest) before.length = entryAt rest 0 := by
  have first := getD_behind before rest 0
  rw [Nat.add_zero] at first
  have region : regionAt (before ++ rest) (before.length + 2) = regionAt rest (0 + 2) := by
    simp only [regionAt, Nat.add_assoc, wordAt_append]
  rw [entryAt, entryAt, first, getD_behind, region]

/-- R207: an entry's record reads back as the entry without its owner-local part. -/
theorem entryAt_record (mark : Bool) (e : Entry) (rest : List Byte) :
    entryAt (e.record mark ++ rest) 0 = some { e with localPart := none } := by
  obtain ⟨owner, slot, format, state, region, localPart⟩ := e
  obtain ⟨owner_is, slot_is⟩ := owner_slot_byte owner slot
  obtain ⟨format_is, state_is⟩ := format_state_byte format state mark
  have region_is : regionAt (Entry.record mark ⟨owner, slot, format, state, region, localPart⟩ ++ rest) (0 + 2) = region :=
    regionAt_bytes region rest
  rw [entryAt, region_is]
  simp only [Entry.record, List.cons_append, List.getD_cons_zero, List.getD_cons_succ, Nat.zero_add, state_is, owner_is,
    slot_is, format_is]

theorem record_length (mark : Bool) (e : Entry) : (e.record mark).length = 10 := rfl

theorem records_length (mark : Bool) (es : List Entry) : (es.flatMap (Entry.record mark)).length = 10 * es.length := by
  induction es with
  | nil => rfl
  | cons e es ih =>
    rw [List.flatMap_cons, List.length_append, ih, record_length, List.length_cons]
    omega

theorem entriesAt_records (es : List Entry) (before rest : List Byte) :
    entriesAt (before ++ (es.flatMap (Entry.record false) ++ rest)) es.length before.length =
      some (es.map fun e => { e with localPart := none }) := by
  induction es generalizing before with
  | nil => rfl
  | cons e es ih =>
    have next := ih (before ++ e.record false)
    rw [List.length_append, record_length, List.append_assoc] at next
    rw [List.flatMap_cons, List.append_assoc, List.length_cons, entriesAt, entryAt_append, entryAt_record, next]
    rfl

/-! ### The roster -/

theorem rosterEntryOf_record (e : RosterEntry) (lawful : e.age < 16) :
    rosterEntryOf (BitVec.ofNat 8 (e.age % 16 + 64 * e.heard.toNat + 128 * e.present.toNat)) e.sequence = e := by
  obtain ⟨present, age, heard, sequence⟩ := e
  have flags : ∀ age < 16, ∀ heard present : Bool,
      let b : Byte := BitVec.ofNat 8 (age % 16 + 64 * heard.toNat + 128 * present.toNat)
      b.getLsbD 7 = present ∧ (b.extractLsb' 0 4).toNat = age ∧ b.getLsbD 6 = heard := by decide
  obtain ⟨present_is, age_is, heard_is⟩ := flags age lawful heard present
  rw [rosterEntryOf, present_is, age_is, heard_is]

theorem rosterBytes_length (roster : Vector RosterEntry 16) : (rosterBytes roster).length = 32 := rfl

theorem rosterBytes_getD (roster : Vector RosterEntry 16) (i : Station) :
    [(rosterBytes roster).getD (2 * i.val) 0, (rosterBytes roster).getD (2 * i.val + 1) 0] = (roster[i]).record := by
  fin_cases i <;> rfl

/-! ### DUMP -/

theorem fourBytes (v : BitVec 32) :
    v.extractLsb' 24 8 ++ v.extractLsb' 16 8 ++ v.extractLsb' 8 8 ++ v.extractLsb' 0 8 = v := by
  refine BitVec.eq_of_getLsbD_eq fun i lt => ?_
  simp only [BitVec.getLsbD_append, BitVec.getLsbD_extractLsb']
  by_cases first : i < 8
  · simp [first]
  by_cases second : i - 8 < 8
  · simp [first, second, show 8 + (i - 8) = i by omega]
  by_cases third : i - 8 - 8 < 8
  · simp [first, second, third, show 16 + (i - 8 - 8) = i by omega]
  · simp [first, second, third, show i - 8 - 8 - 8 < 8 by omega, show 24 + (i - 8 - 8 - 8) = i by omega]

/-- What stands in front of a DUMP's records. -/
def DumpBody.front (b : DumpBody) : List Byte :=
  wordBytes b.requesters ++ [BitVec.ofNat 8 b.entries.length] ++
    [b.outstanding.extractLsb' 0 8, b.outstanding.extractLsb' 8 8, b.outstanding.extractLsb' 16 8,
      b.outstanding.extractLsb' 24 8]

theorem DumpBody.bytes_eq (b : DumpBody) :
    b.bytes = b.front ++ (b.entries.flatMap (Entry.record false) ++ rosterBytes b.roster) := List.append_assoc ..

theorem DumpBody.front_length (b : DumpBody) : b.front.length = 7 := rfl

theorem DumpBody.bytes_length (b : DumpBody) : b.bytes.length = 39 + 10 * b.entries.length := by
  rw [b.bytes_eq, List.length_append, List.length_append, records_length, rosterBytes_length, b.front_length]
  omega

theorem DumpBody.entries_back (b : DumpBody) :
    entriesAt b.bytes b.entries.length 7 = some (b.entries.map fun e => { e with localPart := none }) := by
  rw [b.bytes_eq]
  exact entriesAt_records b.entries b.front (rosterBytes b.roster)

theorem DumpBody.roster_back (b : DumpBody) (ages : ∀ i : Station, (b.roster[i]).age < 16) (i : Station) :
    rosterEntryOf (b.bytes.getD (7 + 10 * b.entries.length + 2 * i.val) 0)
      (b.bytes.getD (8 + 10 * b.entries.length + 2 * i.val) 0) = b.roster[i] := by
  have behind (j : Nat) : b.bytes.getD (7 + 10 * b.entries.length + j) 0 = (rosterBytes b.roster).getD j 0 := by
    have at_roster := getD_behind (b.front ++ b.entries.flatMap (Entry.record false)) (rosterBytes b.roster) j
    rwa [List.length_append, records_length, b.front_length, List.append_assoc, ← b.bytes_eq] at at_roster
  have second : 8 + 10 * b.entries.length + 2 * i.val = 7 + 10 * b.entries.length + (2 * i.val + 1) := by omega
  obtain ⟨first_is, second_is⟩ := List.cons_eq_cons.1 (rosterBytes_getD b.roster i)
  rw [second, behind, behind, first_is, (List.cons_eq_cons.1 second_is).1]
  exact rosterEntryOf_record _ (ages i)

/-- R90, R207: a DUMP's payload reads back as its body, the entries without their owner-local parts. -/
theorem dumpOf_bytes (b : DumpBody) (few : b.entries.length ≤ 32) (ages : ∀ i : Station, (b.roster[i]).age < 16) :
    dumpOf b.bytes = some { b with entries := b.entries.map fun e => { e with localPart := none } } := by
  have count : (b.bytes.getD 2 0).toNat = b.entries.length := by
    show (BitVec.ofNat 8 b.entries.length).toNat = _
    rw [BitVec.toNat_ofNat, Nat.mod_eq_of_lt (by omega)]
  have size : (b.bytes.length != 39 + 10 * b.entries.length) = false := by rw [b.bytes_length, bne_self_eq_false]
  have requesters : wordAt b.bytes 0 = b.requesters := by
    rw [b.bytes_eq]
    exact word_halves b.requesters
  have outstanding : b.bytes.getD 6 0 ++ b.bytes.getD 5 0 ++ b.bytes.getD 4 0 ++ b.bytes.getD 3 0 = b.outstanding := by
    rw [b.bytes_eq]
    exact fourBytes b.outstanding
  have roster : (tab16 fun i => rosterEntryOf (b.bytes.getD (7 + 10 * b.entries.length + 2 * i.val) 0)
      (b.bytes.getD (8 + 10 * b.entries.length + 2 * i.val) 0)) = b.roster := by
    refine Vector.ext fun i lt => ?_
    exact (tab16_get _ ⟨i, lt⟩).trans (b.roster_back ages ⟨i, lt⟩)
  rw [dumpOf]
  simp only [count, size, Nat.not_lt.2 few, decide_false, Bool.false_or, Bool.false_eq_true, if_false, b.entries_back,
    requesters, outstanding, roster]

/-- Settles O14: each payload is its body's bytes, and the body reads back from them. -/
theorem controlPayloadsReadBack : Obligations.ControlPayloadsReadBack := by
  refine ⟨fun s n => ?_, fun s few ages => ?_⟩
  · intro hello claim
    have claim_is : claimOf claim = s.claimBody n := claimOf_bytes (s.claimBody n)
    have hello_is : helloOf hello = s.helloBody := helloOf_bytes s.helloBody
    refine ⟨rfl, rfl, hello_is, fun i => ?_, ?_, ?_, ?_, rfl, slotByte_toNat n, fun _ => rfl, rfl, rfl⟩
    · rw [hello_is]
      exact stationBits_getLsbD s.present i
    · rw [claim_is]
      exact slotByte_toNat n
    · rw [claim_is]
      exact format_ofBits_code (s.slotAt n).format
    · rw [claim_is]
      rfl
  · refine ⟨_, dumpOf_bytes s.dumpBody few ages, s.dumpBody.bytes_length, fun i => ?_, rfl, fun k => ?_, rfl⟩
    · show (stationBits s.recovery.dumpPending.contains).getLsbD i.val = _
      rw [stationBits_getLsbD, List.contains_eq_mem]
    · show (bitsWhere 32 _).getLsbD k = _
      rw [bitsWhere_getLsbD]
      by_cases inside : k < 32
      · rw [decide_eq_true inside, Bool.true_and]
        rfl
      · rw [decide_eq_false inside, Bool.false_and, List.getElem?_eq_none (by omega)]
        rfl

end Sys2Proof.Machine
end
